-- ==== Sys2Proof/Word.lean ====
section
/-! DEFINITION. The word types of DBT: the widths of its registers, ports and codes (R6, R14, R20, R48). -/

namespace Sys2Proof

/-- A value of the millisecond counter and of a duration: `CNT_W = 32` bits, unsigned (R6, R17). -/
abbrev Word := BitVec 32

/-- A command word `cmd[32:0]`, format `CMD` (R49). -/
abbrev CmdWord := BitVec 33

/-- A control-state code `st[2:0]`, format `ST` (R52). -/
abbrev StCode := BitVec 3

/-- A response word `rsp[2:0]`, format `RSP` (R53). -/
abbrev RspWord := BitVec 3

/-- A `LineIndex`: `IDX_W = 2` bits (R6). -/
abbrev LineIndex := BitVec 2

/-- The levels of the input lines, bit `i` for line `i`, 1 = high = released (R55). Only the bits
below the number of lines exist in the block; the others are read by no operation (DESIGN CHOICE, log entry 5). -/
abbrev LineVec := BitVec 4

end Sys2Proof
end

