-- ==== Sys2Proof/Config.lean ====
section
/-! DEFINITION. The parameters of the block (R6, R7) and the free values of the model: the input ports
past the end of the given stimulus (R22, R98; DESIGN CHOICE, log entry 1). -/

namespace Sys2Proof

/-- `N`, the number of configured input lines, `1 <= N <= 4` (R6). -/
inductive LineCount where
  | one
  | two
  | three
  | four
  deriving DecidableEq, Repr

/-- `N` as a number. -/
def LineCount.toNat : LineCount → Nat
  | .one => 1
  | .two => 2
  | .three => 3
  | .four => 4

/-- The parameters fixed when a block is built (R6, R7, R44): the number of lines and the two named
configuration fields of the debounce timing, with the defaults of R6. -/
structure Params where
  lines : LineCount := .four
  settleMs : Word := 20#32
  pollMs : Word := 10#32
  deriving DecidableEq, Repr

/-- `ACTIVE_LEVEL`: the level of a pressed line, logic 0 (R6, R55). -/
def Config.activeLevel : Bool := false

/-- `MIN_NO_OVERFLOW_MS`: the largest duration the source requires to work (R6). -/
def Config.minNoOverflowMs : Nat := 60000

/-- FREE VALUE: `rst` at step number `n`, where no stimulus is given (R98; DESIGN CHOICE, log entry 1). -/
opaque Config.freeRst : Nat → Bool

/-- FREE VALUE: `cmd_valid` at step number `n`, where no stimulus is given (R98; DESIGN CHOICE, log entry 1). -/
opaque Config.freeCmdValid : Nat → Bool

/-- FREE VALUE: `cmd` at step number `n`, where no stimulus is given (R98; DESIGN CHOICE, log entry 1). -/
opaque Config.freeCmd : Nat → CmdWord

/-- FREE VALUE: `tick` at step number `n`, where no stimulus is given (R98; DESIGN CHOICE, log entry 1). -/
opaque Config.freeTick : Nat → Bool

/-- FREE VALUE: `line_in` at step number `n`, where no stimulus is given (R98; DESIGN CHOICE, log entry 1). -/
opaque Config.freeLine : Nat → LineVec

end Sys2Proof
end

