-- ==== Sys2Proof/Syntax.lean ====
section
/-! DEFINITION. The operations of DBT: one constructor per row of spec/opcode_table.json (R60), the
control states (R15, R52), the host commands (R49) and the coded words that carry an operation (R48). -/

namespace Sys2Proof

/-- The eleven operations of the opcode table (R60). -/
inductive Instr where
  /-- `RDBTN`, the host's `read_button()`; its 32 argument bits are ignored (R49, R81). -/
  | rdbtn
  /-- `SLEEP d`, the host's `sleep_ms(d)` (R49, R71). -/
  | sleep (d : Word)
  /-- `TICK`, the millisecond tick event (R54, R68). -/
  | tick
  /-- `RESET`, the reset event (R54, R122). -/
  | reset
  /-- `IDLE`, between calls (R80). -/
  | idle
  /-- `SCAN`, candidate detection (R82). -/
  | scan
  /-- `SETTLE`, the settle timer (R83). -/
  | settle
  /-- `CHECK`, the settle check (R84). -/
  | check
  /-- `REL_READ`, the read of the release detection (R85). -/
  | relRead
  /-- `REL_WAIT`, the wait of the release detection (R86). -/
  | relWait
  /-- `HSLEEP`, the wait state of the host's `sleep_ms` (R72). -/
  | hsleep
  deriving DecidableEq, Repr

/-- The values of the control-state register `st` (R15): seven constructors, so that the reserved code
`111` cannot be held (R56). -/
inductive CtrlState where
  | idle
  | scan
  | settle
  | check
  | relRead
  | relWait
  | hsleep
  deriving DecidableEq, Repr

/-- What a command word says (R49): every one of the 2^33 words says one of these. -/
inductive Command where
  | rdbtn
  | sleep (d : Word)
  deriving DecidableEq, Repr

/-- A word on one of the four carriers of an operation (R48, R60). The carriers are ports and a
register of their own widths, so a word is always given with the carrier it stands on. -/
inductive Code where
  /-- The word on the port `cmd`, format `CMD` (R49). -/
  | cmd (w : CmdWord)
  /-- The bit on the port `tick`, format `EVT` (R54). -/
  | tick (b : BitVec 1)
  /-- The bit on the port `rst`, format `EVT` (R54). -/
  | rst (b : BitVec 1)
  /-- The code in the register `st`, format `ST` (R52). -/
  | st (c : StCode)
  deriving DecidableEq, Repr

end Sys2Proof
end

