-- ==== Sys2Proof/WellFormed.lean ====
section
/-! DEFINITION. Well-formedness: which operations, coded words and response words are legal
(R49, R53, R54, R56). -/

namespace Sys2Proof

/-- Every term of `Instr` is a legal operation: the one operand, the duration of `SLEEP`, may be any
of the 2^32 words (R49). There is no check to fail. -/
def Instr.wf : Instr → Bool
  | .rdbtn => true
  | .sleep _ => true
  | .tick => true
  | .reset => true
  | .idle => true
  | .scan => true
  | .settle => true
  | .check => true
  | .relRead => true
  | .relWait => true
  | .hsleep => true

/-- The coded words that carry an operation: every command word (R49), the bit 1 of an event port
(R54), and every control-state code but the reserved `111` (R52, R56). -/
def Code.wf : Code → Bool
  | .cmd _ => true
  | .tick b => b == 1#1
  | .rst b => b == 1#1
  | .st c => c != 7#3

/-- The response words a block with `n` lines can produce: `000`, and `1` followed by an index below
`n` (R53, R56). -/
def RspWord.wf (n : LineCount) (w : RspWord) : Bool :=
  if w.getLsbD 2 then decide ((w.extractLsb' 0 2).toNat < n.toNat) else w == 0#3

end Sys2Proof
end

