-- ==== Sys2Proof/Decode.lean ====
section
/-! DEFINITION. The decoder, total on every coded word and rejecting by name, the encoder, the response
words, and the numbering of spec/opcode_table.json (R49, R52, R53, R54, R56, R60). -/

namespace Sys2Proof

/-- Why a coded word carries no operation. -/
inductive DecodeRefusal where
  /-- The bit 0 on an event port: "`0` on either encodes no event" (R54). -/
  | noEvent
  /-- The control-state code `111`: "code `111` is reserved" (R56). -/
  | reservedState
  /-- A response word that DBT never produces (R53, R56). -/
  | notAResponse
  deriving DecidableEq, Repr

/-- The decoder's answer. -/
inductive Decoded where
  | instr (i : Instr)
  | rejected (r : DecodeRefusal)
  deriving DecidableEq, Repr

/-- The answer of the host-side reading of a response word. -/
inductive DecodedRsp where
  | result (r : Option LineIndex)
  | rejected (r : DecodeRefusal)
  deriving DecidableEq, Repr

/-- The operation a control state performs (R52). -/
def CtrlState.instr : CtrlState → Instr
  | .idle => .idle
  | .scan => .scan
  | .settle => .settle
  | .check => .check
  | .relRead => .relRead
  | .relWait => .relWait
  | .hsleep => .hsleep

/-- The code of a control state in the register `st` (R52). -/
def CtrlState.code : CtrlState → StCode
  | .idle => 0#3
  | .scan => 1#3
  | .settle => 2#3
  | .check => 3#3
  | .relRead => 4#3
  | .relWait => 5#3
  | .hsleep => 6#3

/-- The control state of a code; the reserved code has none (R52, R56). -/
def ctrlOfCode (c : StCode) : Option CtrlState :=
  if c = 0#3 then some .idle
  else if c = 1#3 then some .scan
  else if c = 2#3 then some .settle
  else if c = 3#3 then some .check
  else if c = 4#3 then some .relRead
  else if c = 5#3 then some .relWait
  else if c = 6#3 then some .hsleep
  else none

/-- The operation a host command asks for. -/
def Command.instr : Command → Instr
  | .rdbtn => .rdbtn
  | .sleep d => .sleep d

/-- Reads a command word: `cmd[32]` is the operation, `cmd[31:0]` the duration of `SLEEP` and ignored
for `RDBTN` (R49, R51). -/
def decodeCmd (w : CmdWord) : Command :=
  if w.getLsbD 32 then .sleep (w.extractLsb' 0 32) else .rdbtn

/-- Reads the bit of an event port (R54). -/
def decodeEvent (b : BitVec 1) (i : Instr) : Decoded :=
  if b = 1#1 then .instr i else .rejected .noEvent

/-- Reads a coded word (R60). -/
def decode : Code → Decoded
  | .cmd w => .instr (decodeCmd w).instr
  | .tick b => decodeEvent b .tick
  | .rst b => decodeEvent b .reset
  | .st c =>
    match ctrlOfCode c with
    | some k => .instr k.instr
    | none => .rejected .reservedState

/-- The word of a command: `RDBTN` is shown with the argument 0, and `SLEEP d` is
`0x1_0000_0000 + d` (R58; DESIGN CHOICE, log entry 14). -/
def encodeCmd : Command → CmdWord
  | .rdbtn => 0#33
  | .sleep d => 1#1 ++ d

/-- The coded word of an operation, with the carrier it stands on (R49, R52, R54, R60). -/
def encode : Instr → Code
  | .rdbtn => .cmd (encodeCmd .rdbtn)
  | .sleep d => .cmd (encodeCmd (.sleep d))
  | .tick => .tick 1#1
  | .reset => .rst 1#1
  | .idle => .st CtrlState.idle.code
  | .scan => .st CtrlState.scan.code
  | .settle => .st CtrlState.settle.code
  | .check => .st CtrlState.check.code
  | .relRead => .st CtrlState.relRead.code
  | .relWait => .st CtrlState.relWait.code
  | .hsleep => .st CtrlState.hsleep.code

/-- The response word of a result: `None` is `000`, `Some(i)` is `100 + i` (R53). -/
def encodeRsp : Option LineIndex → RspWord
  | none => 0#3
  | some i => 1#1 ++ i

/-- The result in a response word of a block with `n` lines, for a host that reads `rsp` (R53). The words
DBT never produces are rejected (R56 and 93_implementation_defined.md U7; DEDUCED, log entry 15). -/
def decodeRsp (n : LineCount) (w : RspWord) : DecodedRsp :=
  if RspWord.wf n w then
    .result (if w.getLsbD 2 then some (w.extractLsb' 0 2) else none)
  else .rejected .notAResponse

/-- The coded word that the numbering of the opcode table stands for. The table's rows are told apart
by their carrier (R60), of which `nbits` shows only the width: one bit is read as the port `tick`, up
to eight bits as the register `st`, and more as the port `cmd` (DESIGN CHOICE, log entry 9). -/
def codeOfTable (nbits w : Nat) : Option Code :=
  if nbits = 0 then none
  else if nbits = 1 then (if w < 2 then some (.tick (BitVec.ofNat 1 w)) else none)
  else if nbits ≤ 8 then (if w < 8 then some (.st (BitVec.ofNat 3 w)) else none)
  else if nbits ≤ 40 then (if w < 8589934592 then some (.cmd (BitVec.ofNat 33 w)) else none)
  else none

/-- What the decoder reads from an instruction numbered as spec/opcode_table.json numbers it. -/
def decodeTableWord (nbits w : Nat) : Option Instr :=
  match codeOfTable nbits w with
  | none => none
  | some c =>
    match decode c with
    | .instr i => some i
    | .rejected _ => none

end Sys2Proof
end

