-- ==== Sys2Proof/Machine/State.lean ====
section
/-! DEFINITION. The state of the model: the seven registers (R14), the parameters (R6), the input ports as
plain data (R20), and the reasons a step can stop. -/

namespace Sys2Proof.Machine

/-- The complete architectural state of DBT, the seven registers of R14, each of the width that R14's table gives it:
42 bits, where R14's text says 41 in all and R25 speaks of 2^41 values (DEDUCED, log entry 19). -/
structure Regs where
  /-- `st`, the control state, this block's program counter (R15). -/
  st : CtrlState
  /-- `cand_v`: a candidate exists (R16). -/
  candV : Bool
  /-- `cand`: the candidate's index (R16). -/
  cand : LineIndex
  /-- `ms_cnt`, the shared millisecond counter (R17). -/
  msCnt : Word
  /-- `rsp_v`: the response register holds the result of the last completed command (R18). -/
  rspV : Bool
  /-- `rsp_some`: that result is `Some` (R18). -/
  rspSome : Bool
  /-- `rsp_idx`: the index of a `Some` result (R18). -/
  rspIdx : LineIndex
  deriving DecidableEq, Repr

/-- The reset values of R24. -/
def Regs.reset : Regs where
  st := .idle
  candV := false
  cand := 0#2
  msCnt := 0#32
  rspV := false
  rspSome := false
  rspIdx := 0#2

/-- The values on the input ports at one step, the record `I` of R96 (R20). -/
structure Inputs where
  rst : Bool
  cmdValid : Bool
  cmd : CmdWord
  tick : Bool
  line : LineVec
  deriving DecidableEq, Repr

/-- The state of the model. `regs` is the state the spec gives the machine. -/
structure State where
  /-- The architectural registers (R14). -/
  regs : Regs
  /-- The parameters of the block (R6); no operation writes them (R44; DESIGN CHOICE, log entry 4). -/
  cfg : Params
  /-- MODEL's own: the input records of the coming steps, oldest first (R58; DESIGN CHOICE, log entry 1). -/
  script : List Inputs
  /-- MODEL's own: the number of the coming step, from which an input past the script's end is a free
  value (DESIGN CHOICE, log entry 2). -/
  now : Nat
  /-- MODEL's own: a `TbLoad` was requested at the step in progress (R96 item 2; DESIGN CHOICE, log entry 3). -/
  loaded : Bool
  deriving DecidableEq, Repr

/-- The reasons the machine stops with a fault. DBT itself has none (R104). -/
inductive Fault where
  /-- Raised by `CHECK` and `REL_READ` when `cand >= N`: "LineRead(i) with i >= N has no meaning (stuck)"
  (R38). Safe: the model stops where the spec gives no meaning, and no reachable state does it. -/
  | lineReadOutOfRange (i : LineIndex)
  deriving DecidableEq, Repr

/-- The reasons a step has no meaning. -/
inductive Refusal where
  /-- Raised by an arm of `exec` whose instruction has no meaning yet. Safe. No arm does so. -/
  | notModelled (mnemonic : String)
  /-- Raised by `step` when the decoder rejects a word it fetched. Safe. No state does so, since `st`
  cannot hold the reserved code (R56). -/
  | undecodable (r : DecodeRefusal)
  deriving DecidableEq, Repr

/-- The machine right after reset: the registers at the values of R24, the parameters at the defaults that
`Params` names once (R6, R7), and no stimulus given (DESIGN CHOICE, log entries 1 to 4). -/
def State.reset : State where
  regs := Regs.reset
  cfg := {}
  script := []
  now := 0
  loaded := false

end Sys2Proof.Machine
end

