-- ==== Sys2Proof/Machine/Environment.lean ====
section
/-! DEFINITION. The input ports: what a step samples (R9, R20) and how the steps follow one another
(DESIGN CHOICE, log entries 1 to 3). -/

namespace Sys2Proof.Machine

/-- The input ports at step number `n` where no stimulus is given: free values (R22, R98; DESIGN CHOICE, log entry 1). -/
def freeInputs (n : Nat) : Inputs where
  rst := Config.freeRst n
  cmdValid := Config.freeCmdValid n
  cmd := Config.freeCmd n
  tick := Config.freeTick n
  line := Config.freeLine n

/-- The input ports at the `k`-th coming step, counted from 0. -/
def inputsAt (s : State) (k : Nat) : Inputs :=
  match s.script[k]? with
  | some i => i
  | none => freeInputs (s.now + k)

/-- The input ports at the coming step, "the values on its input ports just before the edge" (R9). -/
def inputs (s : State) : Inputs :=
  inputsAt s 0

/-- Before a step no `TbLoad` has been requested (R96 item 2; DESIGN CHOICE, log entry 3). -/
def beginStep (s : State) : State :=
  { s with loaded := false }

/-- After a step the next input record stands on the ports (R9; DESIGN CHOICE, log entries 1 to 3). -/
def endStep (s : State) : State :=
  { s with script := s.script.tail, now := s.now + 1, loaded := false }

/-- Input ports on which nothing happens: no reset, no command, no tick, all lines released
(R54, R55, R58). -/
def quietInputs : Inputs where
  rst := false
  cmdValid := false
  cmd := 0#33
  tick := false
  line := 0xF#4

/-- `s` with the input record `i` on the ports at the coming step. -/
def present (i : Inputs) (s : State) : State :=
  { s with script := i :: s.script.tail }

end Sys2Proof.Machine
end

