-- ==== Sys2Proof/Machine/Flags.lean ====
section
/-! DEFINITION. The condition signals of R19, functions of the state and of the inputs at the same step. DBT
stores no flag register. -/

namespace Sys2Proof.Machine

/-- The lines of a block in index order, the order of the scan (R39, R79). -/
def lineIndices : LineCount → List LineIndex
  | .one => [0#2]
  | .two => [0#2, 1#2]
  | .three => [0#2, 1#2, 2#2]
  | .four => [0#2, 1#2, 2#2, 3#2]

/-- Whether line `i` stands at the active level, that is pressed (R55). -/
def isLow (v : LineVec) (i : LineIndex) : Bool :=
  v.getLsbD i.toNat == Config.activeLevel

/-- `lowest_zero(v)`: the least index below `N` whose line is low, if there is one (R10, R51). -/
def lowestZero (n : LineCount) (v : LineVec) : Option LineIndex :=
  (lineIndices n).find? (isLow v)

/-- `cnt_zero = (ms_cnt == 0)`, the zero test (R19, R70). -/
def cntZero (s : State) : Bool :=
  s.regs.msCnt == 0#32

/-- `first_low = lowest_zero(line_in)`, defined when `any_low` (R19). -/
def firstLow (s : State) : Option LineIndex :=
  lowestZero s.cfg.lines (inputs s).line

/-- `any_low`: some line below `N` is low (R19). -/
def anyLow (s : State) : Bool :=
  (lineIndices s.cfg.lines).any (isLow (inputs s).line)

/-- `LineRead(i)`: the level of line `i` at this step, for `i < N` only (R35, R38). -/
def lineRead (s : State) (i : LineIndex) : Option Bool :=
  if i.toNat < s.cfg.lines.toNat then some ((inputs s).line.getLsbD i.toNat) else none

/-- `cand_level = line_in[cand]` (R19). -/
def candLevel (s : State) : Option Bool :=
  lineRead s s.regs.cand

/-- `cmd_ready`: the block accepts a command at this step (R21, R50). -/
def ready (s : State) : Bool :=
  s.regs.st == .idle

/-- `accept = (st == IDLE) and (cmd_valid == 1)` (R19, R50). -/
def accept (s : State) : Bool :=
  ready s && (inputs s).cmdValid

end Sys2Proof.Machine
end

