-- ==== Sys2Proof/Machine/Operands.lean ====
section
/-! DEFINITION. The operand sources of R51: the durations loaded into the counter, the line index, and the
command offered on the port. -/

namespace Sys2Proof.Machine

/-- `zext_32(SETTLE_MS)`, the settle interval (R51; DESIGN CHOICE, log entry 4). -/
def settleDuration (s : State) : Word :=
  s.cfg.settleMs

/-- `zext_32(POLL_MS)`, the poll interval (R51; DESIGN CHOICE, log entry 4). -/
def pollDuration (s : State) : Word :=
  s.cfg.pollMs

/-- The command on the port `cmd` (R49). -/
def offered (s : State) : Command :=
  decodeCmd (inputs s).cmd

/-- The line that `CHECK` and `REL_READ` select: the register `cand`, used as is (R51). -/
def candIndex (s : State) : LineIndex :=
  s.regs.cand

end Sys2Proof.Machine
end

