-- ==== Sys2Proof/Machine/Ops.lean ====
section
/-! DEFINITION. The named operations over the registers that the meanings share: `TbLoad` (R69), the tick's
decrement (R68), `Complete` (R92), the clearing of the response (R80) and reset (R122). DBT raises no
exception and returns from none (R104, R109, R110), so there is no operation for either. -/

namespace Sys2Proof.Machine

/-- `st <- k` (R10). -/
def setSt (k : CtrlState) (s : State) : State :=
  { s with regs := { s.regs with st := k } }

/-- `TbLoad(d)`: `ms_cnt <- d`, which "overrides the decrement of rule R68 at the same step" (R69). -/
def tbLoad (d : Word) (s : State) : State :=
  { s with regs := { s.regs with msCnt := d }, loaded := true }

/-- The tick's read-modify-write of the counter: decrement when nonzero and no `TbLoad` was requested at
this step (R36, R42, R68). -/
def countDown (s : State) : State :=
  if s.loaded = false ∧ s.regs.msCnt ≠ 0#32 then
    { s with regs := { s.regs with msCnt := s.regs.msCnt - 1#32 } }
  else s

/-- `cand_v <- 1 ; cand <- c` (R82). -/
def setCandidate (c : LineIndex) (s : State) : State :=
  { s with regs := { s.regs with candV := true, cand := c } }

/-- `cand_v <- 0 ; cand <- 0` (R16, R81). -/
def clearCandidate (s : State) : State :=
  { s with regs := { s.regs with candV := false, cand := 0#2 } }

/-- `rsp_v <- 0 ; rsp_some <- 0 ; rsp_idx <- 0`, done for every accepted command (R80). -/
def clearResponse (s : State) : State :=
  { s with regs := { s.regs with rspV := false, rspSome := false, rspIdx := 0#2 } }

/-- The response register takes the result `r` (R53, R92). -/
def setResponse (r : Option LineIndex) (s : State) : State :=
  { s with regs := { s.regs with rspV := true, rspSome := r.isSome, rspIdx := r.getD 0#2 } }

/-- `Complete(r)`, the return of a call (R92). -/
def complete (r : Option LineIndex) (s : State) : State :=
  setSt .idle (clearCandidate (setResponse r s))

/-- Every register takes its reset value (R122, R24). -/
def resetRegs (s : State) : State :=
  { s with regs := Regs.reset }

/-- Accepts a host command: it "takes effect only at an accepting step", after the clearing of the response
register; at any other step it is dropped and nothing changes (R50, R71, R80, R81; DEDUCED, log entry 8). -/
def acceptCommand (body : State → State) (s : State) : State :=
  if ready s then body (clearResponse s) else s

/-- A wait state: leave it when the zero test succeeds, else stay (R70). -/
def waitZero (leave : State → State) (s : State) : State :=
  if cntZero s then leave s else s

/-- `LineRead(i)` followed by what is done at a high and at a low level; an index the block has no line for
stops the machine (R35, R38; DEDUCED, log entry 6). -/
def onLevel (i : LineIndex) (high low : State → State) (s : State) :
    Host.Outcome State Fault Refusal :=
  match lineRead s i with
  | some true => .next (high s)
  | some false => .next (low s)
  | none => .fault (.lineReadOutOfRange i)

end Sys2Proof.Machine
end

