-- ==== Sys2Proof/Machine/Timebase.lean ====
section
/-! DEFINITION. The Timebase: `TICK` (R68), `SLEEP` (R71) and `HSLEEP` (R72). -/

namespace Sys2Proof.Machine

/-- `TICK`, the millisecond tick event (R68). -/
def execTick (s : State) : Host.Outcome State Fault Refusal :=
  .next (countDown s)

/-- `SLEEP d`: load the counter and enter the wait state; dropped while a call is in flight (R50, R71). -/
def execSleep (d : Word) (s : State) : Host.Outcome State Fault Refusal :=
  .next (acceptCommand (fun t => setSt .hsleep (tbLoad d t)) s)

/-- `HSLEEP`, the wait state of the host's `sleep_ms` (R72). -/
def execHsleep (s : State) : Host.Outcome State Fault Refusal :=
  .next (waitZero (complete none) s)

end Sys2Proof.Machine
end

