-- ==== Sys2Proof/Machine/Debounce.lean ====
section
/-! DEFINITION. The Debounce Engine: `RDBTN` (R81), `IDLE` (R80), `SCAN` (R82), `SETTLE` (R83), `CHECK` (R84),
`REL_READ` (R85) and `REL_WAIT` (R86). -/

namespace Sys2Proof.Machine

/-- `RDBTN`: start from "no candidate" and scan at the next step; dropped while a call is in flight
(R50, R81). -/
def execRdbtn (s : State) : Host.Outcome State Fault Refusal :=
  .next (acceptCommand (fun t => setSt .scan (clearCandidate t)) s)

/-- `IDLE`: perform the command that is offered, if one is (R80). -/
def execIdle (s : State) : Host.Outcome State Fault Refusal :=
  if (inputs s).cmdValid then
    match offered s with
    | .rdbtn => execRdbtn s
    | .sleep d => execSleep d s
  else .next s

/-- `SCAN`: the lowest low line becomes the candidate and the settle interval begins; with no line low the
call returns `None` (R82, R87). -/
def execScan (s : State) : Host.Outcome State Fault Refusal :=
  match firstLow s with
  | some c => .next (setSt .settle (tbLoad (settleDuration s) (setCandidate c s)))
  | none => .next (complete none s)

/-- `SETTLE`: wait for the counter, then check (R83). -/
def execSettle (s : State) : Host.Outcome State Fault Refusal :=
  .next (waitZero (setSt .check) s)

/-- `CHECK`: a candidate that reads high is discarded, one that is still low is confirmed (R84). -/
def execCheck (s : State) : Host.Outcome State Fault Refusal :=
  onLevel (candIndex s) (complete none) (setSt .relRead) s

/-- `REL_READ`: a candidate that reads high was released and is reported; one that is still low starts a
poll wait (R85). -/
def execRelRead (s : State) : Host.Outcome State Fault Refusal :=
  onLevel (candIndex s) (complete (some s.regs.cand))
    (fun t => setSt .relWait (tbLoad (pollDuration t) t)) s

/-- `REL_WAIT`: wait for the counter, then read again (R86). -/
def execRelWait (s : State) : Host.Outcome State Fault Refusal :=
  .next (waitZero (setSt .relRead) s)

end Sys2Proof.Machine
end

