-- ==== Sys2Proof/Machine/Reset.lean ====
section
/-! DEFINITION. The event `RESET` (R122). -/

namespace Sys2Proof.Machine

/-- `RESET`: every register takes its reset value (R122). -/
def execReset (s : State) : Host.Outcome State Fault Refusal :=
  .next (resetRegs s)

end Sys2Proof.Machine
end

