-- ==== Sys2Proof/Machine/Dispatch.lean ====
section
/-! DEFINITION. The meaning of every operation of the opcode table, one arm per constructor of `Instr`. -/

namespace Sys2Proof.Machine

/-- Performs the operation `i` on the state and the inputs of this step. -/
def exec (i : Instr) (s : State) : Host.Outcome State Fault Refusal :=
  match i with
  -- the commands of the host
  | .rdbtn => Sys2Proof.Machine.execRdbtn s
  | .sleep d => Sys2Proof.Machine.execSleep d s
  -- the events
  | .tick => Sys2Proof.Machine.execTick s
  | .reset => Sys2Proof.Machine.execReset s
  -- the control states
  | .idle => Sys2Proof.Machine.execIdle s
  | .scan => Sys2Proof.Machine.execScan s
  | .settle => Sys2Proof.Machine.execSettle s
  | .check => Sys2Proof.Machine.execCheck s
  | .relRead => Sys2Proof.Machine.execRelRead s
  | .relWait => Sys2Proof.Machine.execRelWait s
  | .hsleep => Sys2Proof.Machine.execHsleep s

end Sys2Proof.Machine
end

