-- ==== Sys2Proof/Machine/Fetch.lean ====
section
/-! DEFINITION. Which operations a step performs and in what order (R96, R97), and how they are performed one
after another (DEDUCED, log entry 17). -/

namespace Sys2Proof.Machine

/-- The coded words a step finds on its carriers, in the order the step honours them: with `rst == 1` the
reset event alone; else the code in `st`, and after it the tick event when `tick == 1` (R96, R97). The command
on the port `cmd` is read by the operation `IDLE` (R80, R99). -/
def fetchCodes (s : State) : List Code :=
  if (inputs s).rst then [.rst 1#1]
  else if (inputs s).tick then [.st s.regs.st.code, .tick 1#1]
  else [.st s.regs.st.code]

/-- Goes on with `f` from a next state; a fault or a refusal stays. -/
def andThen (o : Host.Outcome State Fault Refusal) (f : State → Host.Outcome State Fault Refusal) :
    Host.Outcome State Fault Refusal :=
  match o with
  | .next s => f s
  | .fault r => .fault r
  | .refused r => .refused r

/-- Performs the operation of one coded word. -/
def perform (c : Code) (s : State) : Host.Outcome State Fault Refusal :=
  match decode c with
  | .instr i => exec i s
  | .rejected r => .refused (.undecodable r)

/-- Performs the operations of several coded words, one after another. -/
def performAll : List Code → State → Host.Outcome State Fault Refusal
  | [], s => .next s
  | c :: cs, s => andThen (perform c s) (performAll cs)

/-- The whole of one step: the operations of the step, and then the next input record (R9, R96). -/
def stepOnce (s : State) : Host.Outcome State Fault Refusal :=
  andThen (performAll (fetchCodes s) (beginStep s)) (fun t => .next (endStep t))

/-- `s` with the coded word `c` on its carrier and nothing else happening at the coming step, so that the
step performs its operation: a command stands on the port at a step at which the block is in `IDLE`, an event
on its port, a code in the register `st`. A reserved code has no place in `st` and leaves `s` as it is
(DESIGN CHOICE, log entry 10). -/
def placeCode (c : Code) (s : State) : State :=
  match c with
  | .cmd w => setSt .idle (present { quietInputs with cmdValid := true, cmd := w } s)
  | .tick b => present { quietInputs with tick := b == 1#1 } s
  | .rst b => present { quietInputs with rst := b == 1#1 } s
  | .st c =>
    match ctrlOfCode c with
    | some k => setSt k (present quietInputs s)
    | none => s

end Sys2Proof.Machine
end

