-- ==== Sys2Proof/Machine/Step.lean ====
section
/-! DEFINITION. The step function (R9, R96) and the placing of an instruction where the next step finds it. -/

namespace Sys2Proof.Machine

/-- One rising edge of `clk` (R9, R96). -/
def step (s : State) : Host.Outcome State Fault Refusal :=
  stepOnce s

/-- `s` with the instruction that spec/opcode_table.json numbers as `w` where `step` finds its operation
(DESIGN CHOICE, log entries 9 and 10). -/
def State.withFetchWord (s : State) (nbits w : Nat) : State :=
  match codeOfTable nbits w with
  | some c => placeCode c s
  | none => s

end Sys2Proof.Machine
end

