-- ==== Sys2Proof/Machine/Outputs.lean ====
section
/-! DEFINITION. The output ports, functions of the state alone (R21, R101). -/

namespace Sys2Proof.Machine

/-- The values on the output ports during a step (R21). -/
structure Outputs where
  cmdReady : Bool
  busy : Bool
  rspValid : Bool
  rsp : RspWord
  deriving DecidableEq, Repr

/-- `out(S)` (R101): `rsp = (rsp_some, rsp_idx)` with `rsp_some` in the more significant position (R8). -/
def outputs (s : State) : Outputs where
  cmdReady := ready s
  busy := !ready s
  rspValid := s.regs.rspV
  rsp := BitVec.ofBool s.regs.rspSome ++ s.regs.rspIdx

end Sys2Proof.Machine
end

