-- ==== Sys2Proof/Machine/Stimulus.lean ====
section
/-! DEFINITION. The stimulus notation of R58 and R59: how a script of input records is written. It is the
host's side of the block, no part of a step (DESIGN CHOICE, log entry 16). -/

namespace Sys2Proof.Machine

/-- One line of a stimulus script with `rst` 0: `cmd=- tick=t line=v` or `cmd=w tick=t line=v` (R58). -/
def scriptLine (w : Option CmdWord) (t : Bool) (v : LineVec) : Inputs where
  rst := false
  cmdValid := w.isSome
  cmd := w.getD 0#33
  tick := t
  line := v

/-- A line written with `rst=1` (R58). -/
def resetLine (w : Option CmdWord) (t : Bool) (v : LineVec) : Inputs :=
  { scriptLine w t v with rst := true }

/-- `NOP n`: `n` steps with `cmd=-`, `tick=0`, lines unchanged (R59). -/
def stimNop (n : Nat) (v : LineVec) : List Inputs :=
  List.replicate n (scriptLine none false v)

/-- `TICKS n`: `n` steps with `cmd=-`, `tick=1`, lines unchanged (R59). -/
def stimTicks (n : Nat) (v : LineVec) : List Inputs :=
  List.replicate n (scriptLine none true v)

/-- `PRESS i`: from the next step on `line[i] = 0` (R59). -/
def stimPress (i : LineIndex) (v : LineVec) : LineVec :=
  v &&& ~~~(1#4 <<< i.toNat)

/-- `RELEASE i`: from the next step on `line[i] = 1` (R59). -/
def stimRelease (i : LineIndex) (v : LineVec) : LineVec :=
  v ||| (1#4 <<< i.toNat)

/-- `CALL c` at one step, for a host that sees the outputs `o`: it offers the command, and goes on offering
it at the next step unless the block is in `IDLE` now (R59). -/
def stimCall (c : Command) (t : Bool) (v : LineVec) (o : Outputs) : Inputs × Bool :=
  (scriptLine (some (encodeCmd c)) t v, !o.cmdReady)

/-- `AWAIT` at one step, for a host that sees the outputs `o`: a step without a command while `rsp_valid` is 0, and
nothing more once it is 1, so that the next pseudo-operation has the very step at which the response shows, as
program P4 of 95_test_vectors.md does it. R59's "until" leaves that step open (DEDUCED, log entry 20). -/
def stimAwait (t : Bool) (v : LineVec) (o : Outputs) : Option Inputs :=
  if o.rspValid then none else some (scriptLine none t v)

end Sys2Proof.Machine
end

