-- ==== Sys2Proof/Safety.lean ====
section
/-! DEFINITION. The terms the claims use: runs, the invariants of R25, tick counts (R74, R138), the premises of
R113, and the reference listing of R102 as a function of registers and inputs. -/

namespace Sys2Proof.Machine

/-- `n` steps, stopping at the first fault or refusal. -/
def run : Nat → State → Host.Outcome State Fault Refusal
  | 0, s => .next s
  | n + 1, s => andThen (step s) (run n)

/-- The registers of a next state, and nothing for a fault or a refusal. -/
def regsOf : Host.Outcome State Fault Refusal → Option Regs
  | .next s => some s.regs
  | .fault _ => none
  | .refused _ => none

/-- The control states in which a candidate exists (R25 I2). -/
def holdsCandidate : CtrlState → Bool
  | .settle | .check | .relRead | .relWait => true
  | .idle | .scan | .hsleep => false

/-- The three wait states (R67, R76). -/
def isWait : CtrlState → Bool
  | .settle | .relWait | .hsleep => true
  | .idle | .scan | .check | .relRead => false

/-- The largest counter value in each control state (R25 I4); in `HSLEEP` there is no bound. -/
def counterBound (p : Params) : CtrlState → Nat
  | .settle => p.settleMs.toNat
  | .relWait => p.pollMs.toNat
  | .hsleep => 4294967295
  | .idle | .scan | .check | .relRead => 0

/-- The invariants I2 to I6 of R25, as far as they speak of one state (I1 and I7 hold by the type of `st`). -/
abbrev Invariant (s : State) : Prop :=
  s.regs.candV = holdsCandidate s.regs.st ∧
  s.regs.cand.toNat < s.cfg.lines.toNat ∧
  (s.regs.candV = false → s.regs.cand = 0#2) ∧
  s.regs.msCnt.toNat ≤ counterBound s.cfg s.regs.st ∧
  (s.regs.st ≠ .idle → s.regs.rspV = false) ∧
  (s.regs.rspSome = true → s.regs.rspV = true ∧ s.regs.rspIdx.toNat < s.cfg.lines.toNat) ∧
  (s.regs.rspSome = false → s.regs.rspIdx = 0#2)

/-- The candidate names a line the block has, so that `LineRead(cand)` has a meaning (R38). -/
abbrev CandInRange (s : State) : Prop :=
  s.regs.cand.toNat < s.cfg.lines.toNat

/-- The level of line `c` at the `k`-th coming step (R35). -/
def lineAt (s : State) (k : Nat) (c : LineIndex) : Bool :=
  (inputsAt s k).line.getLsbD c.toNat

/-- No reset at the next `n` steps. -/
abbrev NoReset (s : State) (n : Nat) : Prop :=
  ∀ k, k < n → (inputsAt s k).rst = false

/-- How many of the `n` steps from the `e`-th coming step on have `tick == 1`. -/
def ticksIn (s : State) (e : Nat) : Nat → Nat
  | 0 => 0
  | n + 1 => ticksIn s e n + (if (inputsAt s (e + n)).tick then 1 else 0)

/-- `W(d) = w` for a load at the `e`-th coming step (R138): `w` is the number of steps after it up to and
including the step of the `d`-th later tick. -/
abbrev TicksAfter (s : State) (e : Nat) (d : Word) (w : Nat) : Prop :=
  ticksIn s (e + 1) w = d.toNat ∧ ∀ m, m < w → ticksIn s (e + 1) m < d.toNat

/-- Whether the coming step counts a tick against the sleep in flight (R74). -/
def countsTick (s : State) : Bool :=
  !(inputs s).rst && (inputs s).tick && isWait s.regs.st && !cntZero s

/-- How many ticks a run of `n` steps consumes (R74, R89). -/
def consumed : Nat → State → Nat
  | 0, _ => 0
  | n + 1, s =>
    (if countsTick s then 1 else 0) +
      match step s with
      | .next t => consumed n t
      | .fault _ => 0
      | .refused _ => 0

/-- The counter after a step that requests no `TbLoad`: the tick of the step decrements it when it is nonzero
(R68, R96 item 3). -/
def tickedCounter (s : State) : Word :=
  if (inputs s).tick = true ∧ s.regs.msCnt ≠ 0#32 then s.regs.msCnt - 1#32 else s.regs.msCnt

/-- `first_low` in the words of R87: line `c` exists and is low, and every line of a lower index is high. -/
abbrev IsFirstLow (n : LineCount) (v : LineVec) (c : LineIndex) : Prop :=
  c.toNat < n.toNat ∧ v.getLsbD c.toNat = false ∧ ∀ j : LineIndex, j.toNat < c.toNat → v.getLsbD j.toNat = true

/-- No line of the block is low (R19: not `any_low`). -/
abbrev AllHigh (n : LineCount) (v : LineVec) : Prop :=
  ∀ j : LineIndex, j.toNat < n.toNat → v.getLsbD j.toNat = true

/-- Whether the operation of the coming step requests a `TbLoad` (R69). -/
def loads (s : State) : Bool :=
  match s.regs.st with
  | .idle => (inputs s).cmdValid && (inputs s).cmd.getLsbD 32
  | .scan => anyLow s
  | .relRead => candLevel s == some false
  | .settle | .check | .relWait | .hsleep => false

/-- The polls of a release-wait (R89, R138): from the `REL_READ` at the `p`-th coming step, `k` polls read the
line low and the one at the `q`-th coming step reads it high. -/
inductive Polls (s : State) (c : LineIndex) : Nat → Nat → Nat → Prop where
  | released (p : Nat) (h : lineAt s p c = true) : Polls s c p 0 p
  | held (p w k q : Nat) (h : lineAt s p c = false) (hw : TicksAfter s p s.cfg.pollMs w)
      (rest : Polls s c (p + w + 2) k q) : Polls s c p (k + 1) q

/-- Premise P1 of R113 (tick liveness) as far as one wait needs it: at least `d` of the `x` steps from the `e`-th
coming step on have `tick == 1`. If ticks come at infinitely many steps, there is such an `x` for every `d`. -/
abbrev TickLive (s : State) (e : Nat) (d : Word) (x : Nat) : Prop :=
  d.toNat ≤ ticksIn s e x

/-- Premise P1 of R113 in its own words, tick liveness: at infinitely many steps `tick == 1`. -/
def TicksForEver (s : State) : Prop :=
  ∀ k, ∃ j, k ≤ j ∧ (inputsAt s j).tick = true

/-- Line `c` is high at every step from the `q`-th coming step up to the one before the `n`-th. This is more than
release (P2) asks: it speaks of the inputs alone. -/
abbrev StaysHigh (s : State) (c : LineIndex) (q n : Nat) : Prop :=
  ∀ k, q ≤ k → k < n → lineAt s k c = true

/-- The call accepted at the coming step is in flight after each of the steps up to the `m`-th. -/
def InCall (s : State) (m : Nat) : Prop :=
  ∀ j u, 1 ≤ j → j ≤ m → run j s = .next u → u.regs.st ≠ .idle

/-- The `m`-th coming step is a `REL_READ` step of the call accepted at the coming step. -/
def PollsAt (s : State) (m : Nat) : Prop :=
  InCall s m ∧ ∃ u, run m s = .next u ∧ u.regs.st = .relRead

/-- That step reads the candidate line high. -/
def PollReadsHigh (s : State) (m : Nat) : Prop :=
  InCall s m ∧ ∃ u, run m s = .next u ∧ u.regs.st = .relRead ∧ lineAt s m u.regs.cand = true

/-- Premise P2 of R113, release, within `n` steps: if the call reaches `REL_READ`, one of its `REL_READ` steps reads the
candidate line high. -/
def Released (s : State) (n : Nat) : Prop :=
  (∃ k, k ≤ n ∧ PollsAt s k) → ∃ m, m ≤ n ∧ PollReadsHigh s m

/-- Premise P2 of R113 with no bound on the steps. -/
def ReleasedAtSomePoll (s : State) : Prop :=
  (∃ k, PollsAt s k) → ∃ m, PollReadsHigh s m

/-- Some step among the first `n` of the run from `s` completes a command: it takes `st` to `IDLE` from another
control state (R92). -/
def Completed (s : State) (n : Nat) : Prop :=
  ∃ j u v, j < n ∧ run j s = .next u ∧ step u = .next v ∧ u.regs.st ≠ .idle ∧ v.regs.st = .idle

/-- `complete(r)` of the reference listing (R102), on the registers alone. -/
def refComplete (r : Regs) (a : Option LineIndex) : Regs :=
  { r with
    rspV := true
    rspSome := a.isSome
    rspIdx := match a with
      | none => 0#2
      | some i => i
    candV := false
    cand := 0#2
    st := .idle }

/-- The part of the reference listing before the counter update: the new registers, with the counter still at
its old value, and the `TbLoad` request of the step (R96 item 2, R102). -/
def refControl (p : Params) (r : Regs) (i : Inputs) : Regs × Option Word :=
  match r.st with
  | .idle =>
    if i.cmdValid then
      if i.cmd.getLsbD 32 then
        ({ r with rspV := false, rspSome := false, rspIdx := 0#2, st := .hsleep }, some (i.cmd.setWidth 32))
      else
        ({ r with rspV := false, rspSome := false, rspIdx := 0#2, candV := false, cand := 0#2, st := .scan }, none)
    else (r, none)
  | .scan =>
    if !i.line.getLsbD 0 then ({ r with candV := true, cand := 0#2, st := .settle }, some p.settleMs)
    else if decide (1 < p.lines.toNat) && !i.line.getLsbD 1 then
      ({ r with candV := true, cand := 1#2, st := .settle }, some p.settleMs)
    else if decide (2 < p.lines.toNat) && !i.line.getLsbD 2 then
      ({ r with candV := true, cand := 2#2, st := .settle }, some p.settleMs)
    else if decide (3 < p.lines.toNat) && !i.line.getLsbD 3 then
      ({ r with candV := true, cand := 3#2, st := .settle }, some p.settleMs)
    else (refComplete r none, none)
  | .settle => (if r.msCnt = 0#32 then { r with st := .check } else r, none)
  | .check => (if i.line.getLsbD r.cand.toNat then refComplete r none else { r with st := .relRead }, none)
  | .relRead =>
    if i.line.getLsbD r.cand.toNat then (refComplete r (some r.cand), none)
    else ({ r with st := .relWait }, some p.pollMs)
  | .relWait => (if r.msCnt = 0#32 then { r with st := .relRead } else r, none)
  | .hsleep => (if r.msCnt = 0#32 then refComplete r none else r, none)

/-- The counter update of R96 item 3. -/
def refCounter (old : Word) (tick : Bool) : Option Word → Word
  | some d => d
  | none => if tick && decide (old ≠ 0#32) then BitVec.ofNat 32 (old.toNat - 1) else old

/-- `step` of the reference listing (R96, R102), for a candidate below `N`. -/
def refStep (p : Params) (r : Regs) (i : Inputs) : Regs :=
  if i.rst then Regs.reset
  else
    { (refControl p r i).1 with msCnt := refCounter r.msCnt i.tick (refControl p r i).2 }

end Sys2Proof.Machine
end

