-- ==== Sys2Proof/Certificates/Slice0/Obligations.lean ====
section
/-! DEFINITION. The statements about DBT, each from the numbered rules of spec/ named in its docstring. -/

open Sys2Proof Sys2Proof.Machine

/-! ### Encodings -/

/-- R49, R52, R54, R56 and table V8 of 95_test_vectors.md: a few words written out, and what they stand for. -/
def Obligations.SpecWordsDecodeAsWritten : Prop :=
  decode (.cmd 0x000000000#33) = .instr .rdbtn ∧
  decode (.cmd 0x0FFFFFFFF#33) = .instr .rdbtn ∧
  decode (.cmd 0x100000000#33) = .instr (.sleep 0#32) ∧
  decode (.cmd 0x10000EA60#33) = .instr (.sleep 60000#32) ∧
  decode (.cmd 0x1FFFFFFFF#33) = .instr (.sleep 4294967295#32) ∧
  decode (.tick 1#1) = .instr .tick ∧ decode (.rst 1#1) = .instr .reset ∧
  decode (.st 0b000#3) = .instr .idle ∧ decode (.st 0b001#3) = .instr .scan ∧
  decode (.st 0b010#3) = .instr .settle ∧ decode (.st 0b011#3) = .instr .check ∧
  decode (.st 0b100#3) = .instr .relRead ∧ decode (.st 0b101#3) = .instr .relWait ∧
  decode (.st 0b110#3) = .instr .hsleep ∧ decode (.st 0b111#3) = .rejected .reservedState

/-- R49, R52, R54, R60: decoding an encoded well-formed operation gives it back, with every duration. -/
def Obligations.DecodeOfEncodeIsIdentity : Prop :=
  ∀ i : Instr, i.wf = true → decode (encode i) = .instr i

/-- R49: a command word whose bits under the mask are 0 is `RDBTN` whatever its argument, one whose bits under the
mask are the match of `SLEEP` is `SLEEP` of its low 32 bits, and every 33-bit word is one of the two. -/
def Obligations.EveryCommandWordIsLegal : Prop :=
  ∀ w : CmdWord,
    (w &&& 0x100000000#33 = 0x000000000#33 → decode (.cmd w) = .instr .rdbtn) ∧
    (w &&& 0x100000000#33 = 0x100000000#33 → decode (.cmd w) = .instr (.sleep (w.setWidth 32))) ∧
    (w &&& 0x100000000#33 = 0x000000000#33 ∨ w &&& 0x100000000#33 = 0x100000000#33)

/-- R54, R56: the words that carry an operation decode to one that encodes to the same word (but for the ignored
argument of `RDBTN`), and the words that carry none are rejected by name. -/
def Obligations.OnlyOperationWordsDecode : Prop :=
  ∀ c : Code,
    (c.wf = true → ∃ i, decode c = .instr i ∧
      (encode i = c ∨ i = .rdbtn ∧ ∃ w : CmdWord, c = .cmd w ∧ w.getLsbD 32 = false)) ∧
    (c.wf = false →
      ((c = .tick 0#1 ∨ c = .rst 0#1) ∧ decode c = .rejected .noEvent) ∨
      (c = .st 7#3 ∧ decode c = .rejected .reservedState))

/-- R53: `None` is `000` and `Some(i)` is `100 + i`; a host reads each result back from its word and rejects every
other word (R56, entry U7 of 93_implementation_defined.md; log entry 15); a completion puts the word of its result on `rsp`, a completed `SLEEP` the word `000`; and in every
state that meets the invariants the word on `rsp` is one a block with `N` lines produces, `000` while `rsp_valid`
is 0. -/
def Obligations.ResponseWordCarriesResult : Prop :=
  encodeRsp none = 0b000#3 ∧
  (∀ i : LineIndex, (encodeRsp (some i)).toNat = 4 + i.toNat) ∧
  (∀ (n : LineCount) (r : Option LineIndex), (∀ i, r = some i → i.toNat < n.toNat) →
    decodeRsp n (encodeRsp r) = .result r) ∧
  (∀ (n : LineCount) (w : RspWord), (∀ r, (∀ i, r = some i → i.toNat < n.toNat) → w ≠ encodeRsp r) →
    decodeRsp n w = .rejected .notAResponse) ∧
  (∀ (s : State) (r : Option LineIndex), (outputs (complete r s)).rsp = encodeRsp r) ∧
  (∀ s : State, s.regs.msCnt = 0#32 →
    ∃ t, exec .hsleep s = .next t ∧ (outputs t).rspValid = true ∧ (outputs t).rsp = 0b000#3) ∧
  (∀ s : State, Invariant s → RspWord.wf s.cfg.lines (outputs s).rsp = true ∧
    ((outputs s).rspValid = false → (outputs s).rsp = 0b000#3))

/-! ### The composed step -/

/-- R96, R97: a step with `rst == 1` runs RESET alone; any other step runs the operation its code in `st` decodes to,
and after it TICK when `tick == 1`; around them the step only takes the next input record (log entries 1 to 3). -/
def Obligations.StepRunsTheDecodedOperation : Prop :=
  ∀ s : State,
    ((inputs s).rst = true → step s = andThen (exec .reset (beginStep s)) (fun t => .next (endStep t))) ∧
    ((inputs s).rst = false → ∀ i, decode (.st s.regs.st.code) = .instr i →
      step s =
        andThen
          (andThen (exec i (beginStep s)) (fun t => if (inputs s).tick = true then exec .tick t else .next t))
          (fun t => .next (endStep t)))

/-- R80, R96: IDLE performs the command that the word on `cmd` decodes to. -/
def Obligations.IdleRunsTheDecodedCommand : Prop :=
  ∀ (s : State) (i : Instr), (inputs s).cmdValid = true → decode (.cmd (inputs s).cmd) = .instr i →
    exec .idle s = exec i s

/-- R96, R102: for every candidate that names a line, a step gives the registers of the reference listing. -/
def Obligations.StepAgreesWithReferenceListing : Prop :=
  ∀ s : State, CandInRange s →
    step s = .next (endStep { s with regs := refStep s.cfg s.regs (inputs s) })

/-- R103, row by row: every control transfer of DBT with its other effects. -/
def Obligations.TransitionTableRows : Prop :=
  ∀ s : State,
    ((inputs s).rst = true → step s = .next (endStep { s with regs := Regs.reset })) ∧
    ((inputs s).rst = false →
      (s.regs.st = .idle → (inputs s).cmdValid = false →
        step s = .next (endStep { s with regs := { s.regs with msCnt := tickedCounter s } })) ∧
      (s.regs.st = .idle → (inputs s).cmdValid = true → (inputs s).cmd.getLsbD 32 = false →
        step s = .next (endStep { s with regs := { s.regs with
          st := .scan, candV := false, cand := 0#2, rspV := false, rspSome := false, rspIdx := 0#2,
          msCnt := tickedCounter s } })) ∧
      (s.regs.st = .idle → (inputs s).cmdValid = true → (inputs s).cmd.getLsbD 32 = true →
        step s = .next (endStep { s with regs := { s.regs with
          st := .hsleep, rspV := false, rspSome := false, rspIdx := 0#2,
          msCnt := (inputs s).cmd.setWidth 32 } })) ∧
      (s.regs.st = .scan → AllHigh s.cfg.lines (inputs s).line →
        step s = .next (endStep { s with regs := { s.regs with
          st := .idle, candV := false, cand := 0#2, rspV := true, rspSome := false, rspIdx := 0#2,
          msCnt := tickedCounter s } })) ∧
      (∀ c, s.regs.st = .scan → IsFirstLow s.cfg.lines (inputs s).line c →
        step s = .next (endStep { s with regs := { s.regs with
          st := .settle, candV := true, cand := c, msCnt := s.cfg.settleMs } })) ∧
      (s.regs.st = .settle → s.regs.msCnt ≠ 0#32 →
        step s = .next (endStep { s with regs := { s.regs with msCnt := tickedCounter s } })) ∧
      (s.regs.st = .settle → s.regs.msCnt = 0#32 →
        step s = .next (endStep { s with regs := { s.regs with st := .check } })) ∧
      (s.regs.st = .check → CandInRange s → (inputs s).line.getLsbD s.regs.cand.toNat = true →
        step s = .next (endStep { s with regs := { s.regs with
          st := .idle, candV := false, cand := 0#2, rspV := true, rspSome := false, rspIdx := 0#2,
          msCnt := tickedCounter s } })) ∧
      (s.regs.st = .check → CandInRange s → (inputs s).line.getLsbD s.regs.cand.toNat = false →
        step s = .next (endStep { s with regs := { s.regs with st := .relRead, msCnt := tickedCounter s } })) ∧
      (s.regs.st = .relRead → CandInRange s → (inputs s).line.getLsbD s.regs.cand.toNat = true →
        step s = .next (endStep { s with regs := { s.regs with
          st := .idle, candV := false, cand := 0#2, rspV := true, rspSome := true, rspIdx := s.regs.cand,
          msCnt := tickedCounter s } })) ∧
      (s.regs.st = .relRead → CandInRange s → (inputs s).line.getLsbD s.regs.cand.toNat = false →
        step s = .next (endStep { s with regs := { s.regs with st := .relWait, msCnt := s.cfg.pollMs } })) ∧
      (s.regs.st = .relWait → s.regs.msCnt ≠ 0#32 →
        step s = .next (endStep { s with regs := { s.regs with msCnt := tickedCounter s } })) ∧
      (s.regs.st = .relWait → s.regs.msCnt = 0#32 →
        step s = .next (endStep { s with regs := { s.regs with st := .relRead } })) ∧
      (s.regs.st = .hsleep → s.regs.msCnt ≠ 0#32 →
        step s = .next (endStep { s with regs := { s.regs with msCnt := tickedCounter s } })) ∧
      (s.regs.st = .hsleep → s.regs.msCnt = 0#32 →
        step s = .next (endStep { s with regs := { s.regs with
          st := .idle, candV := false, cand := 0#2, rspV := true, rspSome := false, rspIdx := 0#2 } })))

/-! ### What each operation does -/

/-- R122 with the values of R24: RESET completes in every state and gives every register its reset value. -/
def Obligations.ResetWritesEveryRegister : Prop :=
  ∀ s : State, exec .reset s = .next { s with regs :=
    { st := .idle, candV := false, cand := 0#2, msCnt := 0#32, rspV := false, rspSome := false, rspIdx := 0#2 } }

/-- R68: TICK completes in every state; it takes one from a nonzero counter unless a `TbLoad` was requested at the
step, and changes nothing else; at 0 it never wraps. -/
def Obligations.TickCountsDownWhenNonzero : Prop :=
  ∀ s : State,
    (s.loaded = false → s.regs.msCnt ≠ 0#32 →
      exec .tick s = .next { s with regs := { s.regs with msCnt := s.regs.msCnt - 1#32 } } ∧
      (s.regs.msCnt - 1#32).toNat + 1 = s.regs.msCnt.toNat) ∧
    (s.regs.msCnt = 0#32 → exec .tick s = .next s) ∧
    (s.loaded = true → exec .tick s = .next s)

/-- R71, R80: an accepted SLEEP clears the response, loads the counter with its duration and enters HSLEEP. -/
def Obligations.SleepIsAcceptedInIdle : Prop :=
  ∀ (d : Word) (s : State), s.regs.st = .idle →
    exec (.sleep d) s = .next { s with
      regs := { s.regs with st := .hsleep, msCnt := d, rspV := false, rspSome := false, rspIdx := 0#2 }
      loaded := true }

/-- R80, R81: an accepted RDBTN clears the response and the candidate and enters SCAN; no line is read. -/
def Obligations.RdbtnIsAcceptedInIdle : Prop :=
  ∀ s : State, s.regs.st = .idle →
    exec .rdbtn s = .next { s with regs := { s.regs with
      st := .scan, candV := false, cand := 0#2, rspV := false, rspSome := false, rspIdx := 0#2 } }

/-- R50: a command offered while a call is in flight is dropped; nothing changes. -/
def Obligations.CommandsAreDroppedWhileBusy : Prop :=
  ∀ s : State, s.regs.st ≠ .idle →
    exec .rdbtn s = .next s ∧ ∀ d : Word, exec (.sleep d) s = .next s

/-- R80: in IDLE, without a command nothing changes; with one the response is cleared and RDBTN or SLEEP is
performed. -/
def Obligations.IdlePerformsTheOfferedCommand : Prop :=
  ∀ s : State, s.regs.st = .idle →
    ((inputs s).cmdValid = false → exec .idle s = .next s) ∧
    ((inputs s).cmdValid = true → (inputs s).cmd.getLsbD 32 = false →
      exec .idle s = .next { s with regs := { s.regs with
        st := .scan, candV := false, cand := 0#2, rspV := false, rspSome := false, rspIdx := 0#2 } }) ∧
    ((inputs s).cmdValid = true → (inputs s).cmd.getLsbD 32 = true →
      exec .idle s = .next { s with
        regs := { s.regs with
          st := .hsleep, msCnt := (inputs s).cmd.setWidth 32, rspV := false, rspSome := false, rspIdx := 0#2 }
        loaded := true })

/-- R82: SCAN with every line high completes the call with `None`; no load. -/
def Obligations.ScanWithAllLinesHighReturnsNone : Prop :=
  ∀ s : State, AllHigh s.cfg.lines (inputs s).line →
    exec .scan s = .next { s with regs := { s.regs with
      st := .idle, candV := false, cand := 0#2, rspV := true, rspSome := false, rspIdx := 0#2 } }

/-- R82, R87: SCAN takes the lowest low line as the candidate, loads `SETTLE_MS` and enters SETTLE. -/
def Obligations.ScanTakesTheLowestLowLine : Prop :=
  ∀ (s : State) (c : LineIndex), IsFirstLow s.cfg.lines (inputs s).line c →
    exec .scan s = .next { s with
      regs := { s.regs with st := .settle, candV := true, cand := c, msCnt := s.cfg.settleMs }
      loaded := true }

/-- R83: SETTLE stays while the counter is nonzero and goes to CHECK when it is zero. -/
def Obligations.SettleWaitsForZero : Prop :=
  ∀ s : State,
    (s.regs.msCnt ≠ 0#32 → exec .settle s = .next s) ∧
    (s.regs.msCnt = 0#32 → exec .settle s = .next { s with regs := { s.regs with st := .check } })

/-- R84: CHECK re-reads only the candidate line; high returns `None`, low goes to REL_READ. -/
def Obligations.CheckDecidesOnTheCandidate : Prop :=
  ∀ s : State, CandInRange s →
    ((inputs s).line.getLsbD s.regs.cand.toNat = true →
      exec .check s = .next { s with regs := { s.regs with
        st := .idle, candV := false, cand := 0#2, rspV := true, rspSome := false, rspIdx := 0#2 } }) ∧
    ((inputs s).line.getLsbD s.regs.cand.toNat = false →
      exec .check s = .next { s with regs := { s.regs with st := .relRead } })

/-- R85, R92: REL_READ reports a released candidate as `Some(cand)`, with the value of `cand` before the step, and
starts a poll wait of `POLL_MS` for one that is still low. -/
def Obligations.RelReadReportsOrPolls : Prop :=
  ∀ s : State, CandInRange s →
    ((inputs s).line.getLsbD s.regs.cand.toNat = true →
      exec .relRead s = .next { s with regs := { s.regs with
        st := .idle, candV := false, cand := 0#2, rspV := true, rspSome := true, rspIdx := s.regs.cand } }) ∧
    ((inputs s).line.getLsbD s.regs.cand.toNat = false →
      exec .relRead s = .next { s with
        regs := { s.regs with st := .relWait, msCnt := s.cfg.pollMs }
        loaded := true })

/-- R86: REL_WAIT stays while the counter is nonzero and goes to REL_READ when it is zero. -/
def Obligations.RelWaitWaitsForZero : Prop :=
  ∀ s : State,
    (s.regs.msCnt ≠ 0#32 → exec .relWait s = .next s) ∧
    (s.regs.msCnt = 0#32 → exec .relWait s = .next { s with regs := { s.regs with st := .relRead } })

/-- R72: HSLEEP stays while the counter is nonzero and completes with `None` when it is zero. -/
def Obligations.HsleepWaitsThenCompletes : Prop :=
  ∀ s : State,
    (s.regs.msCnt ≠ 0#32 → exec .hsleep s = .next s) ∧
    (s.regs.msCnt = 0#32 → exec .hsleep s = .next { s with regs := { s.regs with
      st := .idle, candV := false, cand := 0#2, rspV := true, rspSome := false, rspIdx := 0#2 } })

/-- R38 (log entry 6 names the stop): `LineRead(i)` with `i >= N` has no meaning, so CHECK and REL_READ stop there; they go
on for every candidate below `N`, and no other operation ever stops. -/
def Obligations.OnlyOutOfRangeLineReadStops : Prop :=
  ∀ s : State,
    (¬CandInRange s →
      exec .check s = .fault (.lineReadOutOfRange s.regs.cand) ∧
      exec .relRead s = .fault (.lineReadOutOfRange s.regs.cand)) ∧
    (CandInRange s → (∃ t, exec .check s = .next t) ∧ ∃ t, exec .relRead s = .next t) ∧
    (∀ i : Instr, i ≠ .check → i ≠ .relRead → ∃ t, exec i s = .next t)

/-! ### Frames -/

/-- R14, R68, R83, R86: TICK leaves every register but the counter, SETTLE and REL_WAIT every register but `st`. -/
def Obligations.TickAndWaitsFrame : Prop :=
  ∀ s t : State,
    (exec .tick s = .next t → t.regs = { s.regs with msCnt := t.regs.msCnt } ∧ t.loaded = s.loaded) ∧
    (exec .settle s = .next t → t.regs = { s.regs with st := t.regs.st } ∧ t.loaded = s.loaded) ∧
    (exec .relWait s = .next t → t.regs = { s.regs with st := t.regs.st } ∧ t.loaded = s.loaded)

/-- R14, R71, R80, R81: RDBTN leaves the counter, SLEEP the candidate; IDLE leaves the counter unless it performs a
SLEEP, and the candidate unless it performs a RDBTN. -/
def Obligations.CommandFrame : Prop :=
  ∀ (s t : State) (d : Word),
    (exec .rdbtn s = .next t → t.regs.msCnt = s.regs.msCnt ∧ t.loaded = s.loaded) ∧
    (exec (.sleep d) s = .next t → t.regs.candV = s.regs.candV ∧ t.regs.cand = s.regs.cand) ∧
    (exec .idle s = .next t → (inputs s).cmdValid = false ∨ (inputs s).cmd.getLsbD 32 = false →
      t.regs.msCnt = s.regs.msCnt ∧ t.loaded = s.loaded) ∧
    (exec .idle s = .next t → (inputs s).cmdValid = false ∨ (inputs s).cmd.getLsbD 32 = true →
      t.regs.candV = s.regs.candV ∧ t.regs.cand = s.regs.cand)

/-- R14, R82, R84, R85, R72: SCAN leaves the response when it finds a candidate and the counter when it finds none;
CHECK and HSLEEP leave the counter; REL_READ leaves the counter when the line is high, and the candidate and the
response when it is low; CHECK writes `st` alone when the line is low. -/
def Obligations.SamplingFrame : Prop :=
  ∀ s t : State,
    (exec .scan s = .next t →
      (AllHigh s.cfg.lines (inputs s).line → t.regs.msCnt = s.regs.msCnt ∧ t.loaded = s.loaded) ∧
      (¬AllHigh s.cfg.lines (inputs s).line →
        t.regs.rspV = s.regs.rspV ∧ t.regs.rspSome = s.regs.rspSome ∧ t.regs.rspIdx = s.regs.rspIdx)) ∧
    (exec .check s = .next t → t.regs.msCnt = s.regs.msCnt ∧ t.loaded = s.loaded ∧
      ((inputs s).line.getLsbD s.regs.cand.toNat = false → t.regs = { s.regs with st := t.regs.st })) ∧
    (exec .relRead s = .next t →
      ((inputs s).line.getLsbD s.regs.cand.toNat = true →
        t.regs.msCnt = s.regs.msCnt ∧ t.loaded = s.loaded) ∧
      ((inputs s).line.getLsbD s.regs.cand.toNat = false →
        t.regs = { s.regs with st := t.regs.st, msCnt := t.regs.msCnt })) ∧
    (exec .hsleep s = .next t → t.regs.msCnt = s.regs.msCnt ∧ t.loaded = s.loaded)

/-- R34, R35, R44: no operation of the table writes the parameters or the input-line space: every line reads after it
as it read before, at this step and at every coming one. -/
def Obligations.EnvironmentFrame : Prop :=
  ∀ (i : Instr) (s t : State), exec i s = .next t →
    t.cfg = s.cfg ∧ (∀ c : LineIndex, lineRead t c = lineRead s c) ∧ ∀ k, inputsAt t k = inputsAt s k

/-! ### Invariants -/

/-- R24, R25: the reset registers meet the invariants, whatever the parameters and the inputs. -/
def Obligations.InvariantAfterReset : Prop :=
  Invariant State.reset ∧ ∀ s : State, s.regs = Regs.reset → Invariant s

/-- R25: from every state that meets the invariants every step, under every input, gives a next state, and that state
meets them. -/
def Obligations.StepKeepsInvariant : Prop :=
  ∀ s : State, Invariant s → ∃ t, step s = .next t ∧ Invariant t

/-- R22, R44 and log entries 1 to 4: a step never changes the parameters, takes exactly one input record, and leaves
no `TbLoad` request behind. -/
def Obligations.StepTakesOneInputRecord : Prop :=
  ∀ s t : State, step s = .next t →
    t.cfg = s.cfg ∧ t.script = s.script.tail ∧ t.now = s.now + 1 ∧ t.loaded = false ∧
    ∀ k, inputsAt t k = inputsAt s (k + 1)

/-- R98: for every candidate that names a line, and so for every state at all of a block with four lines, a step gives
exactly one next state, whatever the inputs; there is no fault and no refusal. -/
def Obligations.StepIsTotal : Prop :=
  ∀ s : State, CandInRange s ∨ s.cfg.lines = .four →
    ∃ t, step s = .next t ∧ ∀ u, step s = .next u → u = t

/-- R25: "The number of reachable values of (st, cand_v, cand) is 3 + 4N", for every choice of the parameters. -/
def Obligations.ReachableControlValuesAreCounted : Prop :=
  ∀ p : Params, ∃ l : List (CtrlState × Bool × LineIndex), l.Nodup ∧ l.length = 3 + 4 * p.lines.toNat ∧
    ∀ k v c, (k, v, c) ∈ l ↔
      ∃ s n t, s.regs = Regs.reset ∧ s.cfg = p ∧ run n s = .next t ∧
        t.regs.st = k ∧ t.regs.candV = v ∧ t.regs.cand = c

/-! ### Priority and independence -/

/-- R24, R122, R123: a step with `rst == 1` gives the reset values and the reset outputs, whatever the state before it
and whatever command, tick and lines stand at the ports. -/
def Obligations.ResetStepBeatsEverything : Prop :=
  ∀ s : State, (inputs s).rst = true →
    ∃ t, step s = .next t ∧
      t.regs = { st := .idle, candV := false, cand := 0#2, msCnt := 0x00000000#32, rspV := false,
                 rspSome := false, rspIdx := 0b00#2 } ∧
      outputs t = { cmdReady := true, busy := false, rspValid := false, rsp := 0b000#3 }

/-- R69, R97: a tick at the step of a load is not counted; the counter holds the loaded value. -/
def Obligations.LoadBeatsTick : Prop :=
  ∀ s : State, (inputs s).rst = false → (inputs s).tick = true →
    (∀ d, s.regs.st = .idle → (inputs s).cmdValid = true → decode (.cmd (inputs s).cmd) = .instr (.sleep d) →
      ∃ t, step s = .next t ∧ t.regs.st = .hsleep ∧ t.regs.msCnt = d) ∧
    (s.regs.st = .scan → ¬AllHigh s.cfg.lines (inputs s).line →
      ∃ t, step s = .next t ∧ t.regs.st = .settle ∧ t.regs.msCnt = s.cfg.settleMs) ∧
    (s.regs.st = .relRead → CandInRange s → (inputs s).line.getLsbD s.regs.cand.toNat = false →
      ∃ t, step s = .next t ∧ t.regs.st = .relWait ∧ t.regs.msCnt = s.cfg.pollMs)

/-- R99: two input records that agree on what the state reads give the same outcome. `rst` is read in every state; the
command in IDLE only, its operation bit only when valid and its argument only for SLEEP; all lines in SCAN only,
and those below `N` only (the four bits of the model's vector are log entry 5); the candidate's line in CHECK and REL_READ only; `tick` has an effect only when the
counter is nonzero and no load is requested. -/
def Obligations.InputsNotReadHaveNoEffect : Prop :=
  ∀ (s : State) (i j : Inputs), i.rst = j.rst →
    (i.rst = false →
      (s.regs.st = .idle → i.cmdValid = j.cmdValid) ∧
      (s.regs.st = .idle → i.cmdValid = true → i.cmd.getLsbD 32 = j.cmd.getLsbD 32) ∧
      (s.regs.st = .idle → i.cmdValid = true → i.cmd.getLsbD 32 = true →
        i.cmd.setWidth 32 = j.cmd.setWidth 32) ∧
      (s.regs.st = .scan → ∀ c : LineIndex, c.toNat < s.cfg.lines.toNat →
        i.line.getLsbD c.toNat = j.line.getLsbD c.toNat) ∧
      (s.regs.st = .check ∨ s.regs.st = .relRead →
        i.line.getLsbD s.regs.cand.toNat = j.line.getLsbD s.regs.cand.toNat) ∧
      (s.regs.msCnt ≠ 0#32 → loads (present i s) = false → i.tick = j.tick)) →
    step (present i s) = step (present j s)

/-- R18: no rule reads the response register: with any other response a step gives the same state but for the response
register itself. -/
def Obligations.ResponseRegisterIsNeverRead : Prop :=
  ∀ (s t : State) (v so : Bool) (ix : LineIndex), step s = .next t →
    ∃ u, step { s with regs := { s.regs with rspV := v, rspSome := so, rspIdx := ix } } = .next u ∧
      u = { t with regs := { t.regs with
        rspV := u.regs.rspV, rspSome := u.regs.rspSome, rspIdx := u.regs.rspIdx } }

/-- R27: from the step that accepts a command on, two states of the same block that meet the invariants and see the
same inputs run alike for ever, whatever calls came before. -/
def Obligations.CallsStartFresh : Prop :=
  ∀ s u : State, Invariant s → Invariant u → s.cfg = u.cfg → s.script = u.script → s.now = u.now →
    s.regs.st = .idle → u.regs.st = .idle → (inputs s).cmdValid = true →
    ∀ n, run (n + 1) s = run (n + 1) u

/-! ### The counter -/

/-- R73: outside reset and loads the counter never rises and falls by at most one a step, by one exactly when a tick
finds it nonzero. -/
def Obligations.CounterFallsByTicksAlone : Prop :=
  ∀ s t : State, step s = .next t → (inputs s).rst = false → loads s = false →
    t.regs.msCnt.toNat ≤ s.regs.msCnt.toNat ∧
    ((inputs s).tick = true ∧ s.regs.msCnt ≠ 0#32 → t.regs.msCnt.toNat + 1 = s.regs.msCnt.toNat) ∧
    ((inputs s).tick = false ∨ s.regs.msCnt = 0#32 → t.regs.msCnt = s.regs.msCnt)

/-- R69, R92: under the invariants the counter is zero at every load and at every completion. -/
def Obligations.LoadsAndCompletionsFindZero : Prop :=
  ∀ s t : State, Invariant s → step s = .next t → (inputs s).rst = false →
    (loads s = true → s.regs.msCnt = 0#32) ∧
    (s.regs.st ≠ .idle → t.regs.st = .idle → s.regs.msCnt = 0#32 ∧ t.regs.msCnt = 0#32)

/-! ### Calls as a whole -/

/-- R74, R70: a wait state entered with the counter at `d` is kept until the `d`-th tick has passed, the counter showing
at each step how many ticks are left, and is left at the step after, for the successor its rule names. -/
def Obligations.WaitLastsExactlyItsTicks : Prop :=
  ∀ (s : State) (w : Nat), isWait s.regs.st = true → NoReset s (w + 1) →
    ticksIn s 0 w = s.regs.msCnt.toNat → (∀ m, m < w → ticksIn s 0 m < s.regs.msCnt.toNat) →
    (∀ m, m ≤ w → ∃ t, run m s = .next t ∧
      t.regs = { s.regs with msCnt := BitVec.ofNat 32 (s.regs.msCnt.toNat - ticksIn s 0 m) }) ∧
    (∃ t, run (w + 1) s = .next t ∧ t.regs.msCnt = 0#32 ∧
      (s.regs.st = .settle → t.regs.st = .check) ∧ (s.regs.st = .relWait → t.regs.st = .relRead) ∧
      (s.regs.st = .hsleep → t.regs.st = .idle ∧ t.regs.rspV = true)) ∧
    consumed (w + 1) s = s.regs.msCnt.toNat

/-- R71, R72, R74, R138: a SLEEP of `d` ticks that is accepted now is in flight until the `d`-th later tick, completes at
the step after it with `None`, and consumes exactly `d` ticks. -/
def Obligations.SleepCallLastsItsTicks : Prop :=
  ∀ (s : State) (d : Word) (w : Nat), s.regs.st = .idle → (inputs s).cmdValid = true →
    decode (.cmd (inputs s).cmd) = .instr (.sleep d) → TicksAfter s 0 d w → NoReset s (w + 2) →
    (∀ m, 1 ≤ m → m ≤ w + 1 → ∃ t, run m s = .next t ∧ t.regs.st = .hsleep ∧ t.regs.rspV = false) ∧
    (∃ t, run (w + 2) s = .next t ∧ t.regs =
      { st := .idle, candV := false, cand := 0#2, msCnt := 0#32, rspV := true, rspSome := false,
        rspIdx := 0#2 }) ∧
    consumed (w + 2) s = d.toNat

/-- R75: `sleep_ms(0)` completes at the step after its acceptance, consumes no tick and needs none. -/
def Obligations.SleepZeroNeedsNoTick : Prop :=
  ∀ s : State, s.regs.st = .idle → (inputs s).cmdValid = true → (inputs s).cmd = 0x100000000#33 →
    NoReset s 2 →
    consumed 2 s = 0 ∧ ∃ t, run 2 s = .next t ∧ t.regs =
      { st := .idle, candV := false, cand := 0#2, msCnt := 0#32, rspV := true, rspSome := false,
        rspIdx := 0#2 }

/-- R82, R89, R138: a RDBTN whose scan sees every line high answers `None` at its second step and consumes no tick. -/
def Obligations.NoPressCallAnswersNoneAtOnce : Prop :=
  ∀ s : State, Invariant s → s.regs.st = .idle → (inputs s).cmdValid = true →
    decode (.cmd (inputs s).cmd) = .instr .rdbtn → AllHigh s.cfg.lines (inputsAt s 1).line → NoReset s 2 →
    consumed 2 s = 0 ∧ ∃ t, run 2 s = .next t ∧ t.regs =
      { st := .idle, candV := false, cand := 0#2, msCnt := 0#32, rspV := true, rspSome := false,
        rspIdx := 0#2 }

/-- R83, R84, R89, R138: a candidate that reads high at its check is noise: the call answers `None` after exactly one
settle interval, whatever the other lines show. -/
def Obligations.NoiseCallAnswersNone : Prop :=
  ∀ (s : State) (c : LineIndex) (w : Nat), s.regs.st = .idle → (inputs s).cmdValid = true →
    decode (.cmd (inputs s).cmd) = .instr .rdbtn → IsFirstLow s.cfg.lines (inputsAt s 1).line c →
    TicksAfter s 1 s.cfg.settleMs w → lineAt s (w + 3) c = true → NoReset s (w + 4) →
    consumed (w + 4) s = s.cfg.settleMs.toNat ∧ ∃ t, run (w + 4) s = .next t ∧ t.regs =
      { st := .idle, candV := false, cand := 0#2, msCnt := 0#32, rspV := true, rspSome := false,
        rspIdx := 0#2 }

/-- R85, R86, R89, R138: a candidate that is still low at its check and is read low by `k` polls and then high is answered
as `Some`, after exactly `SETTLE_MS + k * POLL_MS` ticks. -/
def Obligations.PressCallAnswersItsLine : Prop :=
  ∀ (s : State) (c : LineIndex) (w k q : Nat), s.regs.st = .idle → (inputs s).cmdValid = true →
    decode (.cmd (inputs s).cmd) = .instr .rdbtn → IsFirstLow s.cfg.lines (inputsAt s 1).line c →
    TicksAfter s 1 s.cfg.settleMs w → lineAt s (w + 3) c = false → Polls s c (w + 4) k q →
    NoReset s (q + 1) →
    consumed (q + 1) s = s.cfg.settleMs.toNat + k * s.cfg.pollMs.toNat ∧
    ∃ t, run (q + 1) s = .next t ∧ t.regs =
      { st := .idle, candV := false, cand := 0#2, msCnt := 0#32, rspV := true, rspSome := true,
        rspIdx := c }

/-- R82, R84, R85, R87, R88: a call that answers `Some(i)` read line `i` low at its scan, every lower line high there, line
`i` low at a CHECK, and line `i` high at its last step. -/
def Obligations.SomeIsAnsweredOnlyForItsLine : Prop :=
  ∀ (s t : State) (n : Nat), s.regs.st = .idle → (inputs s).cmdValid = true →
    decode (.cmd (inputs s).cmd) = .instr .rdbtn → NoReset s (n + 1) →
    (∀ m u, 0 < m → m ≤ n → run m s = .next u → u.regs.st ≠ .idle) →
    run (n + 1) s = .next t → t.regs.st = .idle → t.regs.rspSome = true →
    IsFirstLow s.cfg.lines (inputsAt s 1).line t.regs.rspIdx ∧
    (∃ m u, m < n ∧ run m s = .next u ∧ u.regs.st = .check ∧ lineAt s m t.regs.rspIdx = false) ∧
    lineAt s n t.regs.rspIdx = true

/-! ### Hangs and termination -/

/-- R111: in a wait state with a nonzero counter, for as long as no tick and no reset comes, no register ever changes,
whatever command is offered and whatever the lines show; the block stays busy, and under the invariants shows no
response. -/
def Obligations.NoTickHangsForEver : Prop :=
  ∀ (s : State) (n : Nat), isWait s.regs.st = true → s.regs.msCnt ≠ 0#32 →
    (∀ k, k < n → (inputsAt s k).rst = false ∧ (inputsAt s k).tick = false) →
    ∃ t, run n s = .next t ∧ t.regs = s.regs ∧ (outputs t).busy = true ∧
      (Invariant s → (outputs t).rspValid = false)

/-- R112: in the release-wait, for as long as every REL_READ step reads the candidate low and no reset comes, the call
never completes, however many ticks arrive. -/
def Obligations.StuckLowLineHangsForEver : Prop :=
  ∀ (s : State) (n : Nat), Invariant s → s.regs.st = .relRead ∨ s.regs.st = .relWait → NoReset s n →
    (∀ k u, k < n → run k s = .next u → u.regs.st = .relRead → lineAt s k s.regs.cand = false) →
    ∃ t, run n s = .next t ∧ (t.regs.st = .relRead ∨ t.regs.st = .relWait) ∧
      t.regs.cand = s.regs.cand ∧ (outputs t).busy = true ∧ (outputs t).rspValid = false

/-- R113: when `d` ticks come within `x` steps and no reset comes, an accepted SLEEP of `d` completes within them, after
exactly `d` ticks. Under tick liveness there is such an `x` for every `d`. -/
def Obligations.SleepCompletesUnderTickLiveness : Prop :=
  ∀ (s : State) (d : Word) (x : Nat), s.regs.st = .idle → (inputs s).cmdValid = true →
    decode (.cmd (inputs s).cmd) = .instr (.sleep d) → NoReset s (x + 2) → TickLive s 1 d x →
    ∃ n t, n ≤ x ∧ run (n + 2) s = .next t ∧ t.regs.st = .idle ∧ t.regs.rspV = true ∧
      t.regs.rspSome = false ∧ consumed (n + 2) s = d.toNat ∧
      ∀ m u, 1 ≤ m → m ≤ n + 1 → run m s = .next u → u.regs.st = .hsleep

/-- R113 for inputs alone: once the candidate line stays high, ticks enough for one settle interval and for one poll interval come within `x`
steps, and no reset comes, a RDBTN with a candidate completes within them and two steps more. -/
def Obligations.RdbtnCompletesUnderLivenessAndRelease : Prop :=
  ∀ (s : State) (c : LineIndex) (q x : Nat), s.regs.st = .idle → (inputs s).cmdValid = true →
    decode (.cmd (inputs s).cmd) = .instr .rdbtn → IsFirstLow s.cfg.lines (inputsAt s 1).line c → 2 ≤ q →
    NoReset s (q + x + 2) → StaysHigh s c q (q + x + 2) →
    TickLive s q s.cfg.settleMs x → TickLive s q s.cfg.pollMs x →
    ∃ n t, n < q + x + 2 ∧ run (n + 1) s = .next t ∧ t.regs.st = .idle ∧ t.regs.rspV = true ∧
      ∀ m u, 1 ≤ m → m ≤ n → run m s = .next u → u.regs.st ≠ .idle

/-- R70, R91, R97: in a wait state with a nonzero counter no input but `rst` takes the block out: `st`, the candidate and the
response stay, and the counter, tested before the decrement, falls by the tick of the step. -/
def Obligations.WaitsCannotBeCancelled : Prop :=
  ∀ (s : State) (i : Inputs), isWait s.regs.st = true → s.regs.msCnt ≠ 0#32 → i.rst = false →
    ∃ t, step (present i s) = .next t ∧
      t.regs = { s.regs with msCnt := if i.tick then s.regs.msCnt - 1#32 else s.regs.msCnt }

/-- R88, R91: until the call completes, a step that is no reset keeps the candidate and stays among the states that hold one;
and a candidate is set by SCAN only. -/
def Obligations.OneCandidatePerCall : Prop :=
  ∀ s t : State, step s = .next t → (inputs s).rst = false →
    (holdsCandidate s.regs.st = true →
      t.regs.st = .idle ∨
      (holdsCandidate t.regs.st = true ∧ t.regs.cand = s.regs.cand ∧ t.regs.candV = s.regs.candV)) ∧
    (s.regs.candV = false → t.regs.candV = true → s.regs.st = .scan)

/-! ### Outputs and the response -/

/-- R101: the outputs are those functions of the registers alone; a valid response excludes busy; at the step that
completes a command `busy` falls and `rsp_valid` is 1 after it, and `rsp_valid` rises at no other step. -/
def Obligations.OutputsFollowTheState : Prop :=
  (∀ s : State, (outputs s).cmdReady = decide (s.regs.st = .idle) ∧
    (outputs s).busy = decide (s.regs.st ≠ .idle) ∧ (outputs s).rspValid = s.regs.rspV ∧
    (outputs s).rsp = BitVec.ofBool s.regs.rspSome ++ s.regs.rspIdx) ∧
  (∀ s : State, Invariant s → (outputs s).rspValid = true → (outputs s).busy = false) ∧
  (∀ s t : State, step s = .next t → (inputs s).rst = false →
    ((outputs s).busy = true → (outputs t).busy = false → (outputs t).rspValid = true) ∧
    ((outputs s).rspValid = false → (outputs t).rspValid = true →
      (outputs s).busy = true ∧ (outputs t).busy = false))

/-- R92: IDLE is entered from another control state by reset or by a completion: the response is valid, it is `Some(cand)`
exactly from REL_READ and `None` from SCAN, CHECK and HSLEEP, the candidate is cleared, and a command may be
accepted at once. -/
def Obligations.IdleIsEnteredByCompletion : Prop :=
  ∀ s t : State, step s = .next t → (inputs s).rst = false → s.regs.st ≠ .idle → t.regs.st = .idle →
    t.regs.rspV = true ∧ t.regs.candV = false ∧ t.regs.cand = 0#2 ∧ (outputs t).cmdReady = true ∧
    ((s.regs.st = .relRead ∧ t.regs.rspSome = true ∧ t.regs.rspIdx = s.regs.cand) ∨
     ((s.regs.st = .scan ∨ s.regs.st = .check ∨ s.regs.st = .hsleep) ∧
       t.regs.rspSome = false ∧ t.regs.rspIdx = 0#2))

/-- R80, R124, R130: in IDLE nothing changes for as long as no command and no reset comes, so the response is held; the step
that accepts the next command clears it. -/
def Obligations.IdleHoldsTheResponse : Prop :=
  ∀ (s : State) (n : Nat), Invariant s → s.regs.st = .idle →
    (∀ k, k < n → (inputsAt s k).rst = false ∧ (inputsAt s k).cmdValid = false) →
    ∃ t, run n s = .next t ∧ t.regs = s.regs ∧
      ((inputsAt s n).rst = false → (inputsAt s n).cmdValid = true →
        ∃ u, run (n + 1) s = .next u ∧ u.regs.st ≠ .idle ∧
          u.regs.rspV = false ∧ u.regs.rspSome = false ∧ u.regs.rspIdx = 0#2)

/-- R25 I5: in IDLE, `rsp_v` is 0 exactly when no command has completed since reset. -/
def Obligations.ResponseValidExactlyAfterCompletion : Prop :=
  ∀ (s t : State) (n : Nat), s.regs = Regs.reset → NoReset s n → run n s = .next t → t.regs.st = .idle →
    (t.regs.rspV = true ↔ Completed s n)

/-! ### Termination under the premises of R113 -/

/-- R113: under P1, here that `SETTLE_MS` ticks come within `x` steps after the scan, and P2, that one `REL_READ` step of the
call reads its line high if the call reaches `REL_READ`, every accepted RDBTN that sees no reset completes, whether
its scan finds no line low, noise, or a press. -/
def Obligations.EveryRdbtnCompletesUnderLivenessAndRelease : Prop :=
  ∀ (s : State) (x n : Nat), s.regs.st = .idle → (inputs s).cmdValid = true →
    decode (.cmd (inputs s).cmd) = .instr .rdbtn → NoReset s (n + 1) → x + 4 ≤ n →
    TickLive s 2 s.cfg.settleMs x → Released s n →
    ∃ m t, m ≤ n ∧ run (m + 1) s = .next t ∧ t.regs.st = .idle ∧ t.regs.rspV = true ∧ InCall s m
end

