-- ==== Sys2Proof/Laws/State.lean ====
section
/-! SUPPORT. One lemma per register and register operation (R14's "written by" column), each true by unfolding. -/

namespace Sys2Proof.Machine

section
variable (s : State) (k : CtrlState) (d : Word) (c : LineIndex) (r : Option LineIndex)

@[simp] theorem setSt_st : (setSt k s).regs.st = k := rfl
@[simp] theorem setSt_candV : (setSt k s).regs.candV = s.regs.candV := rfl
@[simp] theorem setSt_cand : (setSt k s).regs.cand = s.regs.cand := rfl
@[simp] theorem setSt_msCnt : (setSt k s).regs.msCnt = s.regs.msCnt := rfl
@[simp] theorem setSt_rspV : (setSt k s).regs.rspV = s.regs.rspV := rfl
@[simp] theorem setSt_rspSome : (setSt k s).regs.rspSome = s.regs.rspSome := rfl
@[simp] theorem setSt_rspIdx : (setSt k s).regs.rspIdx = s.regs.rspIdx := rfl
@[simp] theorem setSt_cfg : (setSt k s).cfg = s.cfg := rfl
@[simp] theorem setSt_script : (setSt k s).script = s.script := rfl
@[simp] theorem setSt_now : (setSt k s).now = s.now := rfl
@[simp] theorem setSt_loaded : (setSt k s).loaded = s.loaded := rfl

@[simp] theorem tbLoad_st : (tbLoad d s).regs.st = s.regs.st := rfl
@[simp] theorem tbLoad_candV : (tbLoad d s).regs.candV = s.regs.candV := rfl
@[simp] theorem tbLoad_cand : (tbLoad d s).regs.cand = s.regs.cand := rfl
@[simp] theorem tbLoad_msCnt : (tbLoad d s).regs.msCnt = d := rfl
@[simp] theorem tbLoad_rspV : (tbLoad d s).regs.rspV = s.regs.rspV := rfl
@[simp] theorem tbLoad_rspSome : (tbLoad d s).regs.rspSome = s.regs.rspSome := rfl
@[simp] theorem tbLoad_rspIdx : (tbLoad d s).regs.rspIdx = s.regs.rspIdx := rfl
@[simp] theorem tbLoad_cfg : (tbLoad d s).cfg = s.cfg := rfl
@[simp] theorem tbLoad_script : (tbLoad d s).script = s.script := rfl
@[simp] theorem tbLoad_now : (tbLoad d s).now = s.now := rfl
@[simp] theorem tbLoad_loaded : (tbLoad d s).loaded = true := rfl

@[simp] theorem setCandidate_st : (setCandidate c s).regs.st = s.regs.st := rfl
@[simp] theorem setCandidate_candV : (setCandidate c s).regs.candV = true := rfl
@[simp] theorem setCandidate_cand : (setCandidate c s).regs.cand = c := rfl
@[simp] theorem setCandidate_msCnt : (setCandidate c s).regs.msCnt = s.regs.msCnt := rfl
@[simp] theorem setCandidate_rspV : (setCandidate c s).regs.rspV = s.regs.rspV := rfl
@[simp] theorem setCandidate_rspSome : (setCandidate c s).regs.rspSome = s.regs.rspSome := rfl
@[simp] theorem setCandidate_rspIdx : (setCandidate c s).regs.rspIdx = s.regs.rspIdx := rfl
@[simp] theorem setCandidate_cfg : (setCandidate c s).cfg = s.cfg := rfl
@[simp] theorem setCandidate_script : (setCandidate c s).script = s.script := rfl
@[simp] theorem setCandidate_now : (setCandidate c s).now = s.now := rfl
@[simp] theorem setCandidate_loaded : (setCandidate c s).loaded = s.loaded := rfl

@[simp] theorem clearCandidate_st : (clearCandidate s).regs.st = s.regs.st := rfl
@[simp] theorem clearCandidate_candV : (clearCandidate s).regs.candV = false := rfl
@[simp] theorem clearCandidate_cand : (clearCandidate s).regs.cand = 0#2 := rfl
@[simp] theorem clearCandidate_msCnt : (clearCandidate s).regs.msCnt = s.regs.msCnt := rfl
@[simp] theorem clearCandidate_rspV : (clearCandidate s).regs.rspV = s.regs.rspV := rfl
@[simp] theorem clearCandidate_rspSome : (clearCandidate s).regs.rspSome = s.regs.rspSome := rfl
@[simp] theorem clearCandidate_rspIdx : (clearCandidate s).regs.rspIdx = s.regs.rspIdx := rfl
@[simp] theorem clearCandidate_cfg : (clearCandidate s).cfg = s.cfg := rfl
@[simp] theorem clearCandidate_script : (clearCandidate s).script = s.script := rfl
@[simp] theorem clearCandidate_now : (clearCandidate s).now = s.now := rfl
@[simp] theorem clearCandidate_loaded : (clearCandidate s).loaded = s.loaded := rfl

@[simp] theorem clearResponse_st : (clearResponse s).regs.st = s.regs.st := rfl
@[simp] theorem clearResponse_candV : (clearResponse s).regs.candV = s.regs.candV := rfl
@[simp] theorem clearResponse_cand : (clearResponse s).regs.cand = s.regs.cand := rfl
@[simp] theorem clearResponse_msCnt : (clearResponse s).regs.msCnt = s.regs.msCnt := rfl
@[simp] theorem clearResponse_rspV : (clearResponse s).regs.rspV = false := rfl
@[simp] theorem clearResponse_rspSome : (clearResponse s).regs.rspSome = false := rfl
@[simp] theorem clearResponse_rspIdx : (clearResponse s).regs.rspIdx = 0#2 := rfl
@[simp] theorem clearResponse_cfg : (clearResponse s).cfg = s.cfg := rfl
@[simp] theorem clearResponse_script : (clearResponse s).script = s.script := rfl
@[simp] theorem clearResponse_now : (clearResponse s).now = s.now := rfl
@[simp] theorem clearResponse_loaded : (clearResponse s).loaded = s.loaded := rfl

@[simp] theorem setResponse_st : (setResponse r s).regs.st = s.regs.st := rfl
@[simp] theorem setResponse_candV : (setResponse r s).regs.candV = s.regs.candV := rfl
@[simp] theorem setResponse_cand : (setResponse r s).regs.cand = s.regs.cand := rfl
@[simp] theorem setResponse_msCnt : (setResponse r s).regs.msCnt = s.regs.msCnt := rfl
@[simp] theorem setResponse_rspV : (setResponse r s).regs.rspV = true := rfl
@[simp] theorem setResponse_rspSome : (setResponse r s).regs.rspSome = r.isSome := rfl
@[simp] theorem setResponse_rspIdx : (setResponse r s).regs.rspIdx = r.getD 0#2 := rfl
@[simp] theorem setResponse_cfg : (setResponse r s).cfg = s.cfg := rfl
@[simp] theorem setResponse_script : (setResponse r s).script = s.script := rfl
@[simp] theorem setResponse_now : (setResponse r s).now = s.now := rfl
@[simp] theorem setResponse_loaded : (setResponse r s).loaded = s.loaded := rfl

@[simp] theorem complete_st : (complete r s).regs.st = .idle := rfl
@[simp] theorem complete_candV : (complete r s).regs.candV = false := rfl
@[simp] theorem complete_cand : (complete r s).regs.cand = 0#2 := rfl
@[simp] theorem complete_msCnt : (complete r s).regs.msCnt = s.regs.msCnt := rfl
@[simp] theorem complete_rspV : (complete r s).regs.rspV = true := rfl
@[simp] theorem complete_rspSome : (complete r s).regs.rspSome = r.isSome := rfl
@[simp] theorem complete_rspIdx : (complete r s).regs.rspIdx = r.getD 0#2 := rfl
@[simp] theorem complete_cfg : (complete r s).cfg = s.cfg := rfl
@[simp] theorem complete_script : (complete r s).script = s.script := rfl
@[simp] theorem complete_now : (complete r s).now = s.now := rfl
@[simp] theorem complete_loaded : (complete r s).loaded = s.loaded := rfl

@[simp] theorem resetRegs_regs : (resetRegs s).regs = Regs.reset := rfl
@[simp] theorem resetRegs_cfg : (resetRegs s).cfg = s.cfg := rfl
@[simp] theorem resetRegs_script : (resetRegs s).script = s.script := rfl
@[simp] theorem resetRegs_now : (resetRegs s).now = s.now := rfl
@[simp] theorem resetRegs_loaded : (resetRegs s).loaded = s.loaded := rfl

@[simp] theorem beginStep_regs : (beginStep s).regs = s.regs := rfl
@[simp] theorem beginStep_cfg : (beginStep s).cfg = s.cfg := rfl
@[simp] theorem beginStep_script : (beginStep s).script = s.script := rfl
@[simp] theorem beginStep_now : (beginStep s).now = s.now := rfl
@[simp] theorem beginStep_loaded : (beginStep s).loaded = false := rfl

@[simp] theorem endStep_regs : (endStep s).regs = s.regs := rfl
@[simp] theorem endStep_cfg : (endStep s).cfg = s.cfg := rfl
@[simp] theorem endStep_script : (endStep s).script = s.script.tail := rfl
@[simp] theorem endStep_now : (endStep s).now = s.now + 1 := rfl
@[simp] theorem endStep_loaded : (endStep s).loaded = false := rfl

@[simp] theorem present_regs (i : Inputs) : (present i s).regs = s.regs := rfl
@[simp] theorem present_cfg (i : Inputs) : (present i s).cfg = s.cfg := rfl
@[simp] theorem present_now (i : Inputs) : (present i s).now = s.now := rfl
@[simp] theorem present_loaded (i : Inputs) : (present i s).loaded = s.loaded := rfl
@[simp] theorem present_tail (i : Inputs) : (present i s).script.tail = s.script.tail := rfl

end

@[simp] theorem countDown_st (s : State) : (countDown s).regs.st = s.regs.st := by
  unfold countDown; split <;> rfl
@[simp] theorem countDown_candV (s : State) : (countDown s).regs.candV = s.regs.candV := by
  unfold countDown; split <;> rfl
@[simp] theorem countDown_cand (s : State) : (countDown s).regs.cand = s.regs.cand := by
  unfold countDown; split <;> rfl
@[simp] theorem countDown_rspV (s : State) : (countDown s).regs.rspV = s.regs.rspV := by
  unfold countDown; split <;> rfl
@[simp] theorem countDown_rspSome (s : State) : (countDown s).regs.rspSome = s.regs.rspSome := by
  unfold countDown; split <;> rfl
@[simp] theorem countDown_rspIdx (s : State) : (countDown s).regs.rspIdx = s.regs.rspIdx := by
  unfold countDown; split <;> rfl
@[simp] theorem countDown_cfg (s : State) : (countDown s).cfg = s.cfg := by
  unfold countDown; split <;> rfl
@[simp] theorem countDown_script (s : State) : (countDown s).script = s.script := by
  unfold countDown; split <;> rfl
@[simp] theorem countDown_now (s : State) : (countDown s).now = s.now := by
  unfold countDown; split <;> rfl
@[simp] theorem countDown_loaded (s : State) : (countDown s).loaded = s.loaded := by
  unfold countDown; split <;> rfl

/-- A state is its five parts, and its registers their seven. -/
theorem state_ext {s t : State} (hr : s.regs = t.regs) (hc : s.cfg = t.cfg) (hs : s.script = t.script)
    (hn : s.now = t.now) (hl : s.loaded = t.loaded) : s = t := by
  cases s; cases t; simp_all

theorem regs_ext {r q : Regs} (h1 : r.st = q.st) (h2 : r.candV = q.candV) (h3 : r.cand = q.cand)
    (h4 : r.msCnt = q.msCnt) (h5 : r.rspV = q.rspV) (h6 : r.rspSome = q.rspSome)
    (h7 : r.rspIdx = q.rspIdx) : r = q := by
  cases r; cases q; simp_all

end Sys2Proof.Machine
end

