-- ==== Sys2Proof/Laws/Environment.lean ====
section
/-! SUPPORT. What the input ports read, before and after the operations that touch or do not touch them. -/

namespace Sys2Proof.Machine

/-- The input ports are the environment's alone: no other part of the state has a say in them. -/
theorem inputsAt_congr {s t : State} (hs : s.script = t.script) (hn : s.now = t.now) (k : Nat) :
    inputsAt s k = inputsAt t k := by
  simp only [inputsAt, hs, hn]

theorem inputs_congr {s t : State} (hs : s.script = t.script) (hn : s.now = t.now) :
    inputs s = inputs t :=
  inputsAt_congr hs hn 0

@[simp] theorem inputs_beginStep (s : State) : inputs (beginStep s) = inputs s := rfl

@[simp] theorem inputsAt_beginStep (s : State) (k : Nat) : inputsAt (beginStep s) k = inputsAt s k := rfl

/-- After a step the ports show the next record of the same stream. -/
@[simp] theorem inputsAt_endStep (s : State) (k : Nat) : inputsAt (endStep s) k = inputsAt s (k + 1) := by
  simp only [inputsAt, endStep_script, endStep_now, List.getElem?_tail]
  rw [Nat.add_assoc s.now 1 k, Nat.add_comm 1 k]

@[simp] theorem inputs_endStep (s : State) : inputs (endStep s) = inputsAt s 1 :=
  inputsAt_endStep s 0

@[simp] theorem inputs_present (i : Inputs) (s : State) : inputs (present i s) = i := rfl

theorem inputsAt_zero (s : State) : inputsAt s 0 = inputs s := rfl

end Sys2Proof.Machine
end

