-- ==== Sys2Proof/Laws/Ops.lean ====
section
/-! SUPPORT. What each shared operation can do, said once: the zero test, the counter, the handshake and the line
reads (R50, R68, R69, R70, R35, R87). -/

namespace Sys2Proof.Machine

@[simp] theorem cntZero_iff (s : State) : cntZero s = true ↔ s.regs.msCnt = 0#32 := by
  simp [cntZero]

@[simp] theorem ready_iff (s : State) : ready s = true ↔ s.regs.st = .idle := by
  simp [ready]

theorem acceptCommand_ready (body : State → State) {s : State} (h : s.regs.st = .idle) :
    acceptCommand body s = body (clearResponse s) := by
  simp [acceptCommand, h]

theorem acceptCommand_busy (body : State → State) {s : State} (h : s.regs.st ≠ .idle) :
    acceptCommand body s = s := by
  simp [acceptCommand, h]

theorem waitZero_zero (leave : State → State) {s : State} (h : s.regs.msCnt = 0#32) :
    waitZero leave s = leave s := by
  simp [waitZero, h]

theorem waitZero_nonzero (leave : State → State) {s : State} (h : s.regs.msCnt ≠ 0#32) :
    waitZero leave s = s := by
  simp [waitZero, h]

theorem countDown_loaded_eq {s : State} (h : s.loaded = true) : countDown s = s := by
  simp [countDown, h]

theorem countDown_zero {s : State} (h : s.regs.msCnt = 0#32) : countDown s = s := by
  simp [countDown, h]

theorem countDown_nonzero {s : State} (hl : s.loaded = false) (h : s.regs.msCnt ≠ 0#32) :
    countDown s = { s with regs := { s.regs with msCnt := s.regs.msCnt - 1#32 } } := by
  simp [countDown, hl, h]

/-- A decrement of a nonzero counter is exact: "no wrap-around, no borrow out" (R73). -/
theorem toNat_decrement {w : Word} (h : w ≠ 0#32) : (w - 1#32).toNat = w.toNat - 1 := by
  have : w.toNat ≠ 0 := fun h0 => h (BitVec.eq_of_toNat_eq (by simpa using h0))
  have := w.isLt
  rw [BitVec.toNat_sub]
  simp only [BitVec.toNat_ofNat]
  omega

theorem lineRead_of_lt {s : State} {i : LineIndex} (h : i.toNat < s.cfg.lines.toNat) :
    lineRead s i = some ((inputs s).line.getLsbD i.toNat) := by
  simp [lineRead, h]

theorem lineRead_of_not_lt {s : State} {i : LineIndex} (h : ¬i.toNat < s.cfg.lines.toNat) :
    lineRead s i = none := by
  simp [lineRead, h]

theorem onLevel_high {s : State} {i : LineIndex} (high low : State → State)
    (h : i.toNat < s.cfg.lines.toNat) (hl : (inputs s).line.getLsbD i.toNat = true) :
    onLevel i high low s = .next (high s) := by
  simp [onLevel, lineRead_of_lt h, hl]

theorem onLevel_low {s : State} {i : LineIndex} (high low : State → State)
    (h : i.toNat < s.cfg.lines.toNat) (hl : (inputs s).line.getLsbD i.toNat = false) :
    onLevel i high low s = .next (low s) := by
  simp [onLevel, lineRead_of_lt h, hl]

theorem onLevel_out_of_range {s : State} {i : LineIndex} (high low : State → State)
    (h : ¬i.toNat < s.cfg.lines.toNat) :
    onLevel i high low s = .fault (.lineReadOutOfRange i) := by
  simp [onLevel, lineRead_of_not_lt h]

theorem mem_lineIndices (n : LineCount) (i : LineIndex) : i ∈ lineIndices n ↔ i.toNat < n.toNat := by
  cases n <;> revert i <;> decide

theorem isLow_iff (v : LineVec) (i : LineIndex) : isLow v i = true ↔ v.getLsbD i.toNat = false := by
  simp [isLow, Config.activeLevel]

/-- Whatever a control operation answers, it keeps the parameters and the stimulus. -/
structure KeepsEnvironment (s t : State) : Prop where
  cfg : t.cfg = s.cfg
  script : t.script = s.script
  now : t.now = s.now

theorem exec_keepsEnvironment {i : Instr} {s t : State} (h : exec i s = .next t) :
    KeepsEnvironment s t := by
  have hacc : ∀ body : State → State, (∀ u, KeepsEnvironment u (body u)) →
      KeepsEnvironment s (acceptCommand body s) := by
    intro body hb
    unfold acceptCommand
    split
    · exact ⟨(hb _).cfg, (hb _).script, (hb _).now⟩
    · exact ⟨rfl, rfl, rfl⟩
  have hwait : ∀ leave : State → State, (∀ u, KeepsEnvironment u (leave u)) →
      KeepsEnvironment s (waitZero leave s) := by
    intro leave hb
    unfold waitZero
    split
    · exact hb s
    · exact ⟨rfl, rfl, rfl⟩
  have hlevel : ∀ (high low : State → State) (j : LineIndex), (∀ u, KeepsEnvironment u (high u)) →
      (∀ u, KeepsEnvironment u (low u)) → onLevel j high low s = .next t → KeepsEnvironment s t := by
    intro high low j hh hl h
    unfold onLevel at h
    split at h <;> cases h
    · exact hh s
    · exact hl s
  cases i <;> simp only [exec] at h
  case rdbtn => cases h; exact hacc _ fun u => ⟨rfl, rfl, rfl⟩
  case sleep d => cases h; exact hacc _ fun u => ⟨rfl, rfl, rfl⟩
  case tick => cases h; exact ⟨by simp, by simp, by simp⟩
  case reset => cases h; exact ⟨rfl, rfl, rfl⟩
  case idle =>
    unfold execIdle at h
    split at h
    · split at h
      · unfold execRdbtn at h; cases h; exact hacc _ fun u => ⟨rfl, rfl, rfl⟩
      · unfold execSleep at h; cases h; exact hacc _ fun u => ⟨rfl, rfl, rfl⟩
    · cases h; exact ⟨rfl, rfl, rfl⟩
  case scan => unfold execScan at h; split at h <;> cases h <;> exact ⟨rfl, rfl, rfl⟩
  case settle => cases h; exact hwait _ fun u => ⟨rfl, rfl, rfl⟩
  case check => unfold execCheck at h; refine hlevel _ _ _ ?_ ?_ h <;> exact fun u => ⟨rfl, rfl, rfl⟩
  case relRead => unfold execRelRead at h; refine hlevel _ _ _ ?_ ?_ h <;> exact fun u => ⟨rfl, rfl, rfl⟩
  case relWait => cases h; exact hwait _ fun u => ⟨rfl, rfl, rfl⟩
  case hsleep => cases h; exact hwait _ fun u => ⟨rfl, rfl, rfl⟩

end Sys2Proof.Machine
end

