-- ==== Sys2Proof/Laws/Step.lean ====
section
/-! SUPPORT. How a step is made of its operations: what is fetched always decodes, and outcomes compose. -/

namespace Sys2Proof.Machine

@[simp] theorem ctrlOfCode_code (k : CtrlState) : ctrlOfCode k.code = some k := by
  cases k <;> decide

@[simp] theorem decode_st_code (k : CtrlState) : decode (.st k.code) = .instr k.instr := by
  simp [decode]

@[simp] theorem perform_st (k : CtrlState) (s : State) : perform (.st k.code) s = exec k.instr s := by
  simp [perform]

@[simp] theorem perform_tick (s : State) : perform (.tick 1#1) s = exec .tick s := rfl

@[simp] theorem perform_rst (s : State) : perform (.rst 1#1) s = exec .reset s := rfl

@[simp] theorem andThen_next (s : State) (f : State → Host.Outcome State Fault Refusal) :
    andThen (.next s) f = f s := rfl

@[simp] theorem andThen_fault (r : Fault) (f : State → Host.Outcome State Fault Refusal) :
    andThen (.fault r) f = .fault r := rfl

@[simp] theorem andThen_refused (r : Refusal) (f : State → Host.Outcome State Fault Refusal) :
    andThen (.refused r) f = .refused r := rfl

/-- A composed outcome is a next state only through a next state. -/
theorem andThen_eq_next {o : Host.Outcome State Fault Refusal}
    {f : State → Host.Outcome State Fault Refusal} {t : State} (h : andThen o f = .next t) :
    ∃ u, o = .next u ∧ f u = .next t := by
  cases o with
  | next u => exact ⟨u, rfl, h⟩
  | fault r => cases h
  | refused r => cases h

@[simp] theorem run_zero (s : State) : run 0 s = .next s := rfl

theorem run_succ (n : Nat) (s : State) : run (n + 1) s = andThen (step s) (run n) := rfl

/-- A run that begins with a step to `t` goes on from `t`. -/
theorem run_succ_of_step {n : Nat} {s t : State} (h : step s = .next t) : run (n + 1) s = run n t := by
  rw [run_succ, h, andThen_next]

end Sys2Proof.Machine
end

