-- ==== Sys2Proof/Laws/PerInstr.lean ====
section
/-! SUPPORT. Statements made per instruction: the coded word of every well-formed operation is a legal word of its
carrier (R48, R56). -/

namespace Sys2Proof.Laws.EncodesLegally

/-- The encoder writes only words that carry an operation. -/
def Statement (i : Instr) : Prop :=
  i.wf = true → (encode i).wf = true

theorem rdbtn : Statement .rdbtn := fun _ => rfl
theorem sleep (d : Word) : Statement (.sleep d) := fun _ => rfl
theorem tick : Statement .tick := fun _ => rfl
theorem reset : Statement .reset := fun _ => rfl
theorem idle : Statement .idle := fun _ => rfl
theorem scan : Statement .scan := fun _ => rfl
theorem settle : Statement .settle := fun _ => rfl
theorem check : Statement .check := fun _ => rfl
theorem relRead : Statement .relRead := fun _ => rfl
theorem relWait : Statement .relWait := fun _ => rfl
theorem hsleep : Statement .hsleep := fun _ => rfl

end Sys2Proof.Laws.EncodesLegally
end

