-- ==== Sys2Proof/Laws/Premises.lean ====
section
/-! SUPPORT. The bounded premises of the statements on termination follow from P1 and P2 of R113. -/

namespace Sys2Proof.Machine

theorem ticksIn_succ (s : State) (e n : Nat) :
    ticksIn s e (n + 1) = ticksIn s e n + (if (inputsAt s (e + n)).tick then 1 else 0) := rfl

/-- A longer stretch of steps holds no fewer ticks. -/
theorem ticksIn_mono (s : State) (e : Nat) {m n : Nat} (h : m ≤ n) : ticksIn s e m ≤ ticksIn s e n := by
  induction n, h using Nat.le_induction with
  | base => exact le_rfl
  | succ n _ ih => exact ih.trans (by rw [ticksIn_succ]; exact Nat.le_add_right _ _)

/-- P1: from every step on, any number of ticks comes within some number of steps. -/
theorem exists_tickLive {s : State} (h : TicksForEver s) (e : Nat) (d : Word) : ∃ x, TickLive s e d x := by
  suffices ∀ k, ∃ x, k ≤ ticksIn s e x from this d.toNat
  intro k
  induction k with
  | zero => exact ⟨0, Nat.zero_le _⟩
  | succ k ih =>
    obtain ⟨x, hx⟩ := ih
    obtain ⟨j, hj, ht⟩ := h (e + x)
    obtain ⟨i, rfl⟩ := Nat.exists_eq_add_of_le hj
    have hm := ticksIn_mono s e (Nat.le_add_right x i)
    rw [Nat.add_assoc] at ht
    exact ⟨x + i + 1, by rw [ticksIn_succ, ht, if_pos rfl]; omega⟩

/-- P2: beyond any bound there is one within which the call is released. -/
theorem exists_released {s : State} (h : ReleasedAtSomePoll s) (b : Nat) : ∃ n, b ≤ n ∧ Released s n := by
  by_cases hp : ∃ k, PollsAt s k
  · obtain ⟨m, hm⟩ := h hp
    exact ⟨max b m, le_max_left _ _, fun _ => ⟨m, le_max_right _ _, hm⟩⟩
  · exact ⟨b, le_rfl, fun ⟨k, _, hk⟩ => absurd ⟨k, hk⟩ hp⟩

end Sys2Proof.Machine
end

