-- ==== Sys2Proof/Tests/Slice0.lean ====
section
/-! SUPPORT. Tests of the model: expected results are the vectors of 95_test_vectors.md and the encodings of
30_encoding.md; and for every statement with hypotheses a concrete state that meets them. -/

namespace Sys2Proof.Tests

open Sys2Proof.Machine

/-! ### How a vector is written -/

/-- A register state in the notation of 95_test_vectors.md: `st cand_v cand ms_cnt rsp_v rsp`. -/
def vec (k : CtrlState) (cv : Bool) (c : LineIndex) (ms : Word) (rv : Bool) (rsp : RspWord) : Regs where
  st := k
  candV := cv
  cand := c
  msCnt := ms
  rspV := rv
  rspSome := rsp.getLsbD 2
  rspIdx := rsp.extractLsb' 0 2

/-- `tick=t line=v`, no command. -/
def io (t : Bool) (v : LineVec) : Inputs := scriptLine none t v

/-- `cmd=w tick=t line=v`. -/
def cio (w : CmdWord) (t : Bool) (v : LineVec) : Inputs := scriptLine (some w) t v

/-- A block with the default parameters, its registers and the coming input records. -/
def blk (r : Regs) (is : List Inputs) : State := { State.reset with regs := r, script := is }

/-- The same with `n` lines. -/
def blkN (n : LineCount) (r : Regs) (is : List Inputs) : State :=
  { State.reset with regs := r, script := is, cfg := { lines := n } }

/-- A block with short intervals, `SETTLE_MS = 2` and `POLL_MS = 1`, so that whole calls stay small. -/
def tiny (r : Regs) (is : List Inputs) : State :=
  { State.reset with regs := r, script := is, cfg := { settleMs := 2#32, pollMs := 1#32 } }

/-- The registers after one step with the record `i`. -/
def after (r : Regs) (i : Inputs) : Option Regs := regsOf (step (blk r [i]))

/-! ### Well-formedness and decoding -/

/-- R54, R56, R53: each check refuses an ill-formed word. -/
theorem test_illFormedWordsAreRefused :
    (Code.tick 0#1).wf = false ∧ (Code.rst 0#1).wf = false ∧ (Code.st 7#3).wf = false ∧
    RspWord.wf .four 0b001#3 = false ∧ RspWord.wf .four 0b010#3 = false ∧ RspWord.wf .four 0b011#3 = false ∧
    RspWord.wf .two 0b110#3 = false ∧ RspWord.wf .three 0b111#3 = false ∧ RspWord.wf .one 0b101#3 = false := by
  decide

/-- R54, R56: the decoder rejects those words by name. -/
theorem test_decodeRejectsByName :
    decode (.tick 0#1) = .rejected .noEvent ∧ decode (.rst 0#1) = .rejected .noEvent ∧
    decode (.st 0b111#3) = .rejected .reservedState ∧
    decodeRsp .four 0b001#3 = .rejected .notAResponse ∧ decodeRsp .two 0b110#3 = .rejected .notAResponse := by
  decide

/-- R49: pattern `0aaa…` with `a` = 0, 1 and all ones. -/
theorem test_decode_rdbtn :
    decode (.cmd 0b000000000000000000000000000000000#33) = .instr .rdbtn ∧
    decode (.cmd 0b000000000000000000000000000000001#33) = .instr .rdbtn ∧
    decode (.cmd 0b011111111111111111111111111111111#33) = .instr .rdbtn := by decide

/-- R49: pattern `1ddd…`, `d[31]` first; 20, 60000 and 2^31. -/
theorem test_decode_sleep :
    decode (.cmd 0b100000000000000000000000000010100#33) = .instr (.sleep 20#32) ∧
    decode (.cmd 0b100000000000000001110101001100000#33) = .instr (.sleep 60000#32) ∧
    decode (.cmd 0b110000000000000000000000000000000#33) = .instr (.sleep 2147483648#32) := by decide

theorem test_decode_tick : decode (.tick 0b1#1) = .instr .tick := by decide
theorem test_decode_reset : decode (.rst 0b1#1) = .instr .reset := by decide
theorem test_decode_idle : decode (.st 0b000#3) = .instr .idle := by decide
theorem test_decode_scan : decode (.st 0b001#3) = .instr .scan := by decide
theorem test_decode_settle : decode (.st 0b010#3) = .instr .settle := by decide
theorem test_decode_check : decode (.st 0b011#3) = .instr .check := by decide
theorem test_decode_relRead : decode (.st 0b100#3) = .instr .relRead := by decide
theorem test_decode_relWait : decode (.st 0b101#3) = .instr .relWait := by decide
theorem test_decode_hsleep : decode (.st 0b110#3) = .instr .hsleep := by decide

/-- V8: the words of the commands and of the responses. -/
theorem test_encode :
    encodeCmd .rdbtn = 0x000000000#33 ∧ encodeCmd (.sleep 20#32) = 0x100000014#33 ∧
    encodeCmd (.sleep 4294967295#32) = 0x1FFFFFFFF#33 ∧
    encodeRsp none = 0b000#3 ∧ encodeRsp (some 0#2) = 0b100#3 ∧ encodeRsp (some 3#2) = 0b111#3 := by decide

/-- The numbering of spec/opcode_table.json, with its widths in bits and in whole bytes. -/
theorem test_tableWords :
    decodeTableWord 33 0 = some .rdbtn ∧ decodeTableWord 40 0x100000000 = some (.sleep 0#32) ∧
    decodeTableWord 40 0x10000EA60 = some (.sleep 60000#32) ∧ decodeTableWord 1 1 = some .tick ∧
    decodeTableWord 3 0 = some .idle ∧ decodeTableWord 8 1 = some .scan ∧ decodeTableWord 8 6 = some .hsleep ∧
    decodeTableWord 8 7 = none ∧ decodeTableWord 40 0x200000000 = none := by decide

/-- A placed code is run by the next step: `SLEEP 5` is accepted, `HSLEEP` at 0 completes, a lone tick at 0 does nothing. -/
theorem test_withFetchWord :
    regsOf (step (State.reset.withFetchWord 40 0x100000005)) = some (vec .hsleep false 0#2 5#32 false 0b000#3) ∧
    regsOf (step (State.reset.withFetchWord 8 6)) = some (vec .idle false 0#2 0#32 true 0b000#3) ∧
    regsOf (step (State.reset.withFetchWord 1 1)) = some (vec .idle false 0#2 0#32 false 0b000#3) := by decide

/-! ### One step of each operation -/

/-- V1: a decrement, and no wrap at zero. -/
theorem test_tick :
    after (vec .settle true 2#2 20#32 false 0#3) (io true 15#4) = some (vec .settle true 2#2 19#32 false 0#3) ∧
    after (vec .idle false 0#2 0#32 false 0#3) (io true 15#4) = some (vec .idle false 0#2 0#32 false 0#3) := by decide

/-- V2: the load wins over the tick of the same step; `SLEEP 0`. -/
theorem test_sleep :
    after (vec .idle false 0#2 0#32 false 0#3) (cio 0x100000007#33 true 15#4) =
      some (vec .hsleep false 0#2 7#32 false 0#3) ∧
    after (vec .idle false 0#2 0#32 false 0#3) (cio 0x100000000#33 false 15#4) =
      some (vec .hsleep false 0#2 0#32 false 0#3) := by decide

/-- V2: the argument and the lines are ignored, the old response `Some(2)` is cleared. -/
theorem test_rdbtn :
    after (vec .idle false 0#2 0#32 true 0b110#3) (cio 0x0FFFFFFFF#33 true 0b0000#4) =
      some (vec .scan false 0#2 0#32 false 0#3) := by decide

/-- V2: without `cmd_valid` the word on `cmd` is not read and the response is held. -/
theorem test_idle :
    after (vec .idle false 0#2 0#32 true 0b101#3) { io true 0b0000#4 with cmd := 0x100000009#33 } =
      some (vec .idle false 0#2 0#32 true 0b101#3) := by decide

/-- V6: a command while busy is dropped and the tick is counted. -/
theorem test_droppedWhileBusy :
    after (vec .settle true 1#2 5#32 false 0#3) (cio 0x100000009#33 true 15#4) =
      some (vec .settle true 1#2 4#32 false 0#3) ∧
    after (vec .hsleep false 0#2 4#32 false 0#3) (cio 0#33 true 0#4) =
      some (vec .hsleep false 0#2 3#32 false 0#3) := by decide

/-- V3a: the candidate of each of the sixteen line vectors. -/
theorem test_scan :
    after (vec .scan false 0#2 0#32 false 0#3) (io false 0b1111#4) = some (vec .idle false 0#2 0#32 true 0#3) ∧
    (∀ v ∈ [0b1110#4, 0b1100#4, 0b1010#4, 0b1000#4, 0b0110#4, 0b0100#4, 0b0010#4, 0b0000#4],
      after (vec .scan false 0#2 0#32 false 0#3) (io true v) = some (vec .settle true 0#2 20#32 false 0#3)) ∧
    (∀ v ∈ [0b1101#4, 0b1001#4, 0b0101#4, 0b0001#4],
      after (vec .scan false 0#2 0#32 false 0#3) (io true v) = some (vec .settle true 1#2 20#32 false 0#3)) ∧
    (∀ v ∈ [0b1011#4, 0b0011#4],
      after (vec .scan false 0#2 0#32 false 0#3) (io true v) = some (vec .settle true 2#2 20#32 false 0#3)) ∧
    after (vec .scan false 0#2 0#32 false 0#3) (io true 0b0111#4) = some (vec .settle true 3#2 20#32 false 0#3) := by
  decide

/-- V3b: fewer lines; the bits of lines that do not exist are not read. -/
theorem test_scan_fewerLines :
    regsOf (step (blkN .one (vec .scan false 0#2 0#32 false 0#3) [io false 0b0001#4])) =
      some (vec .idle false 0#2 0#32 true 0#3) ∧
    regsOf (step (blkN .two (vec .scan false 0#2 0#32 false 0#3) [io false 0b0001#4])) =
      some (vec .settle true 1#2 20#32 false 0#3) ∧
    regsOf (step (blkN .three (vec .scan false 0#2 0#32 false 0#3) [io false 0b0111#4])) =
      some (vec .idle false 0#2 0#32 true 0#3) ∧
    regsOf (step (blkN .three (vec .scan false 0#2 0#32 false 0#3) [io false 0b0011#4])) =
      some (vec .settle true 2#2 20#32 false 0#3) := by decide

/-- V1: the zero test sees the value before the decrement; the exit needs no tick. -/
theorem test_settle :
    after (vec .settle true 2#2 1#32 false 0#3) (io true 15#4) = some (vec .settle true 2#2 0#32 false 0#3) ∧
    after (vec .settle true 2#2 0#32 false 0#3) (io false 15#4) = some (vec .check true 2#2 0#32 false 0#3) := by
  decide

/-- V4: only the candidate line counts. -/
theorem test_check :
    after (vec .check true 2#2 0#32 false 0#3) (io false 0b1011#4) = some (vec .relRead true 2#2 0#32 false 0#3) ∧
    after (vec .check true 2#2 0#32 false 0#3) (io false 0b0100#4) = some (vec .idle false 0#2 0#32 true 0#3) := by
  decide

/-- V5: a release, and a load that wins over the tick. -/
theorem test_relRead :
    after (vec .relRead true 3#2 0#32 false 0#3) (io false 0b1000#4) = some (vec .idle false 0#2 0#32 true 0b111#3) ∧
    after (vec .relRead true 0#2 0#32 false 0#3) (io true 0b1110#4) = some (vec .relWait true 0#2 10#32 false 0#3) := by
  decide

/-- V1, V6: the line is not read in the wait; the exit. -/
theorem test_relWait :
    after (vec .relWait true 3#2 7#32 false 0#3) (io false 15#4) = some (vec .relWait true 3#2 7#32 false 0#3) ∧
    after (vec .relWait true 2#2 0#32 false 0#3) (io true 15#4) = some (vec .relRead true 2#2 0#32 false 0#3) := by
  decide

/-- V1: the largest duration, and the completion of a `SLEEP`. -/
theorem test_hsleep :
    after (vec .hsleep false 0#2 4294967295#32 false 0#3) (io true 15#4) =
      some (vec .hsleep false 0#2 4294967294#32 false 0#3) ∧
    after (vec .hsleep false 0#2 0#32 false 0#3) (io true 15#4) = some (vec .idle false 0#2 0#32 true 0#3) := by decide

/-- V6: reset beats the command and the tick, and clears a held response. -/
theorem test_reset :
    after (vec .settle true 1#2 5#32 false 0#3) (resetLine (some 0x100000009#33) true 15#4) =
      some (vec .idle false 0#2 0#32 false 0#3) ∧
    after (vec .idle false 0#2 0#32 true 0b101#3) (resetLine none false 15#4) =
      some (vec .idle false 0#2 0#32 false 0#3) := by decide

/-- V7: the outputs after reset, with a response held, and while busy. -/
theorem test_outputs :
    outputs State.reset = ⟨true, false, false, 0b000#3⟩ ∧
    outputs (blk (vec .idle false 0#2 0#32 true 0b110#3) []) = ⟨true, false, true, 0b110#3⟩ ∧
    outputs (blk (vec .relWait true 2#2 4#32 false 0#3) []) = ⟨false, true, false, 0b000#3⟩ := by decide

/-- R59: `PRESS`, `RELEASE`, and what `CALL` and `AWAIT` do at a step at which the block is busy and at one at which a
response stands, where P4 offers the next command (step 26). -/
theorem test_stimulus :
    stimPress 1#2 0b1111#4 = 0b1101#4 ∧ stimRelease 1#2 0b0101#4 = 0b0111#4 ∧
    stimTicks 2 15#4 = [io true 15#4, io true 15#4] ∧ stimNop 1 7#4 = [io false 7#4] ∧
    stimCall (.sleep 3#32) true 15#4 ⟨false, true, false, 0#3⟩ = (cio 0x100000003#33 true 15#4, true) ∧
    stimCall .rdbtn false 15#4 ⟨true, false, false, 0#3⟩ = (cio 0#33 false 15#4, false) ∧
    stimAwait false 15#4 ⟨false, true, false, 0#3⟩ = some (io false 15#4) ∧
    stimAwait true 7#4 ⟨true, false, true, 0b101#3⟩ = none := by decide

/-! ### The hypotheses of the statements can be met -/

theorem witness_DecodeOfEncodeIsIdentity :
    (Instr.sleep 0#32).wf = true ∧ (Instr.sleep 4294967295#32).wf = true ∧ Instr.hsleep.wf = true := by decide

theorem witness_EveryCommandWordIsLegal :
    0x0FFFFFFFF#33 &&& 0x100000000#33 = 0x000000000#33 ∧ 0x100000000#33 &&& 0x100000000#33 = 0x100000000#33 := by
  decide

theorem witness_OnlyOperationWordsDecode :
    (Code.cmd 0x0FFFFFFFF#33).wf = true ∧ (Code.st 6#3).wf = true ∧ (Code.tick 1#1).wf = true ∧
    (Code.tick 0#1).wf = false ∧ (Code.rst 0#1).wf = false ∧ (Code.st 7#3).wf = false := by decide

theorem witness_ResponseWordCarriesResult :
    (∀ i, some 3#2 = some i → i.toNat < LineCount.four.toNat) ∧
    (∀ r : Option LineIndex, (∀ i, r = some i → i.toNat < LineCount.one.toNat) → 0b101#3 ≠ encodeRsp r) ∧
    Invariant (blk (vec .idle false 0#2 0#32 true 0b111#3) []) ∧
    Invariant (blk (vec .scan false 0#2 0#32 false 0#3) []) ∧
    (outputs (blk (vec .scan false 0#2 0#32 false 0#3) [])).rspValid = false ∧
    (blk (vec .hsleep false 0#2 0#32 false 0#3) []).regs.msCnt = 0#32 := by
  refine ⟨?_, ?_, by decide, by decide, by decide, by decide⟩
  · intro i h; cases h; decide
  · rintro (_ | i) h
    · decide
    · have := h i rfl
      revert this; revert i; decide

/-- A reset step, a step in `REL_READ` with a tick, and one in `HSLEEP` without. -/
theorem witness_StepRunsTheDecodedOperation :
    (inputs (blk (vec .scan false 0#2 0#32 false 0#3) [resetLine none true 0#4])).rst = true ∧
    (inputs (blk (vec .relRead true 3#2 0#32 false 0#3) [io true 7#4])).rst = false ∧
    decode (.st CtrlState.relRead.code) = .instr .relRead ∧
    (inputs (blk (vec .hsleep false 0#2 1#32 false 0#3) [io false 15#4])).rst = false ∧
    decode (.st CtrlState.hsleep.code) = .instr .hsleep := by decide

/-- A block in `IDLE` to which `SLEEP 2^32-1` is offered. -/
def offersSleep : State := blk (vec .idle false 0#2 0#32 true 0b101#3) [cio 0x1FFFFFFFF#33 true 15#4]

/-- A block in `IDLE` to which `RDBTN` is offered. -/
def offersRdbtn : State := blk (vec .idle false 0#2 0#32 true 0b101#3) [cio 0x0FFFFFFFF#33 true 0#4]

theorem witness_IdleRunsTheDecodedCommand :
    (inputs offersSleep).cmdValid = true ∧
    decode (.cmd (inputs offersSleep).cmd) = .instr (.sleep 4294967295#32) ∧
    (inputs offersRdbtn).cmdValid = true ∧ decode (.cmd (inputs offersRdbtn).cmd) = .instr .rdbtn := by decide

theorem witness_StepAgreesWithReferenceListing :
    CandInRange (blk (vec .check true 3#2 0#32 false 0#3) []) ∧
    CandInRange (blkN .one (vec .check true 0#2 0#32 false 0#3) []) ∧ CandInRange State.reset := by decide

/-- One step in each row of the table of R103 from `IDLE` and `SCAN`, at the ends of the ranges that the rows name. -/
theorem witness_TransitionTableRows_commands :
    (inputs (blk (vec .relWait true 2#2 7#32 false 0#3) [resetLine none true 0#4])).rst = true ∧
    (let s := blk (vec .idle false 0#2 0#32 true 0b110#3) [io true 0#4];
      (inputs s).rst = false ∧ s.regs.st = .idle ∧ (inputs s).cmdValid = false) ∧
    (let s := offersRdbtn;
      (inputs s).rst = false ∧ s.regs.st = .idle ∧ (inputs s).cmdValid = true ∧ (inputs s).cmd.getLsbD 32 = false) ∧
    (let s := offersSleep;
      (inputs s).rst = false ∧ s.regs.st = .idle ∧ (inputs s).cmdValid = true ∧ (inputs s).cmd.getLsbD 32 = true) ∧
    (let s := blkN .three (vec .scan false 0#2 0#32 false 0#3) [io true 7#4];
      (inputs s).rst = false ∧ s.regs.st = .scan ∧ AllHigh s.cfg.lines (inputs s).line) ∧
    (let s := blk (vec .scan false 0#2 0#32 false 0#3) [io true 7#4];
      (inputs s).rst = false ∧ s.regs.st = .scan ∧ IsFirstLow s.cfg.lines (inputs s).line 3#2) ∧
    (let s := blk (vec .scan false 0#2 0#32 false 0#3) [io true 0#4];
      (inputs s).rst = false ∧ s.regs.st = .scan ∧ IsFirstLow s.cfg.lines (inputs s).line 0#2) := by
  refine ⟨?_, ?_, ?_, ?_, ?_, ?_, ?_⟩ <;> decide

/-- The rows from the states that read the candidate line. -/
theorem witness_TransitionTableRows_candidate :
    (let s := blk (vec .check true 3#2 0#32 false 0#3) [io true 8#4];
      (inputs s).rst = false ∧ s.regs.st = .check ∧ CandInRange s ∧
        (inputs s).line.getLsbD s.regs.cand.toNat = true) ∧
    (let s := blk (vec .check true 3#2 0#32 false 0#3) [io true 7#4];
      (inputs s).rst = false ∧ s.regs.st = .check ∧ CandInRange s ∧
        (inputs s).line.getLsbD s.regs.cand.toNat = false) ∧
    (let s := blkN .one (vec .relRead true 0#2 0#32 false 0#3) [io true 1#4];
      (inputs s).rst = false ∧ s.regs.st = .relRead ∧ CandInRange s ∧
        (inputs s).line.getLsbD s.regs.cand.toNat = true) ∧
    (let s := blkN .one (vec .relRead true 0#2 0#32 false 0#3) [io true 14#4];
      (inputs s).rst = false ∧ s.regs.st = .relRead ∧ CandInRange s ∧
        (inputs s).line.getLsbD s.regs.cand.toNat = false) := by
  refine ⟨?_, ?_, ?_, ?_⟩ <;> decide

/-- The rows from the wait states, with the counter at 0, at 1 and at the largest value. -/
theorem witness_TransitionTableRows_waits :
    ∀ k ∈ [CtrlState.settle, .relWait, .hsleep], ∀ d ∈ [0#32, 1#32, 4294967295#32],
      (inputs (blk (vec k true 2#2 d false 0#3) [io true 0#4])).rst = false ∧
      (blk (vec k true 2#2 d false 0#3) [io true 0#4]).regs.st = k ∧
      (blk (vec k true 2#2 d false 0#3) [io true 0#4]).regs.msCnt = d :=
  fun _ _ _ _ => ⟨rfl, rfl, rfl⟩

theorem witness_TickCountsDownWhenNonzero :
    ((blk (vec .settle true 2#2 1#32 false 0#3) []).loaded = false ∧
      (blk (vec .settle true 2#2 1#32 false 0#3) []).regs.msCnt ≠ 0#32) ∧
    (blk (vec .idle false 0#2 0#32 false 0#3) []).regs.msCnt = 0#32 ∧
    (tbLoad 20#32 (blk (vec .scan false 0#2 0#32 false 0#3) [])).loaded = true := by decide

/-- `IDLE`, for the accepted commands, and each other control state, for the dropped ones. -/
theorem witness_commandsAtIdleAndElsewhere :
    offersSleep.regs.st = .idle ∧ offersRdbtn.regs.st = .idle ∧
    ∀ k ∈ [CtrlState.scan, .settle, .check, .relRead, .relWait, .hsleep],
      (blk (vec k false 0#2 0#32 false 0#3) []).regs.st ≠ .idle := by decide

theorem witness_IdlePerformsTheOfferedCommand :
    (inputs (blk (vec .idle false 0#2 0#32 true 0b110#3) [io true 0#4])).cmdValid = false ∧
    ((inputs offersRdbtn).cmdValid = true ∧ (inputs offersRdbtn).cmd.getLsbD 32 = false) ∧
    ((inputs offersSleep).cmdValid = true ∧ (inputs offersSleep).cmd.getLsbD 32 = true) := by decide

theorem witness_scans :
    AllHigh .one 0b0001#4 ∧ AllHigh .four 0b1111#4 ∧
    IsFirstLow .four 0b0000#4 0#2 ∧ IsFirstLow .four 0b0111#4 3#2 ∧ IsFirstLow .two 0b0001#4 1#2 := by decide

/-- The two sides of the zero test, for `SETTLE`, `REL_WAIT` and `HSLEEP` alike. -/
theorem witness_zeroTests :
    (blk (vec .settle true 2#2 1#32 false 0#3) []).regs.msCnt ≠ 0#32 ∧
    (blk (vec .relWait true 2#2 0#32 false 0#3) []).regs.msCnt = 0#32 ∧
    (blk (vec .hsleep false 0#2 4294967295#32 false 0#3) []).regs.msCnt ≠ 0#32 := by decide

/-- The candidate line high and low, for CHECK and REL_READ alike. -/
theorem witness_candidateReads :
    (CandInRange (blk (vec .check true 3#2 0#32 false 0#3) [io true 8#4]) ∧
      (inputs (blk (vec .check true 3#2 0#32 false 0#3) [io true 8#4])).line.getLsbD 3 = true) ∧
    (CandInRange (blk (vec .relRead true 3#2 0#32 false 0#3) [io true 7#4]) ∧
      (inputs (blk (vec .relRead true 3#2 0#32 false 0#3) [io true 7#4])).line.getLsbD 3 = false) := by decide

theorem witness_OnlyOutOfRangeLineReadStops :
    ¬CandInRange (blkN .three (vec .check true 3#2 0#32 false 0#3) []) ∧
    ¬CandInRange (blkN .one (vec .relRead true 1#2 0#32 false 0#3) []) ∧
    CandInRange (blkN .three (vec .check true 2#2 0#32 false 0#3) []) ∧
    CandInRange (blkN .one (vec .relRead true 0#2 0#32 false 0#3) []) ∧
    Instr.tick ≠ .check ∧ Instr.tick ≠ .relRead := by decide

theorem witness_TickAndWaitsFrame :
    (∃ t, exec .tick (blk (vec .settle true 2#2 1#32 false 0#3) []) = .next t) ∧
    (∃ t, exec .settle (blk (vec .settle true 2#2 0#32 false 0#3) []) = .next t) ∧
    (∃ t, exec .relWait (blk (vec .relWait true 2#2 0#32 false 0#3) []) = .next t) :=
  ⟨⟨_, rfl⟩, ⟨_, rfl⟩, ⟨_, rfl⟩⟩

theorem witness_CommandFrame :
    (∃ t, exec .rdbtn offersRdbtn = .next t) ∧ (∃ t, exec (.sleep 4294967295#32) offersSleep = .next t) ∧
    (∃ t, exec .idle offersRdbtn = .next t ∧ (inputs offersRdbtn).cmd.getLsbD 32 = false) ∧
    (∃ t, exec .idle offersSleep = .next t ∧ (inputs offersSleep).cmd.getLsbD 32 = true) ∧
    (∃ t, exec .idle (blk (vec .idle true 3#2 9#32 true 0b110#3) [{ io true 0#4 with cmd := 0x100000009#33 }]) = .next t ∧
      (io true 0#4).cmdValid = false) :=
  ⟨⟨_, rfl⟩, ⟨_, rfl⟩, ⟨_, rfl, by decide⟩, ⟨_, rfl, by decide⟩, ⟨_, rfl, by decide⟩⟩

theorem witness_SamplingFrame :
    (∃ t, exec .scan (blk (vec .scan false 0#2 0#32 false 0#3) [io true 15#4]) = .next t ∧
      AllHigh .four 15#4) ∧
    (∃ t, exec .scan (blk (vec .scan false 0#2 0#32 false 0#3) [io true 7#4]) = .next t ∧
      ¬AllHigh .four 7#4) ∧
    (∃ t, exec .check (blk (vec .check true 3#2 0#32 false 0#3) [io true 7#4]) = .next t) ∧
    (∃ t, exec .relRead (blk (vec .relRead true 3#2 0#32 false 0#3) [io true 8#4]) = .next t) ∧
    (∃ t, exec .relRead (blk (vec .relRead true 3#2 0#32 false 0#3) [io true 7#4]) = .next t) ∧
    (∃ t, exec .hsleep (blk (vec .hsleep false 0#2 0#32 false 0#3) []) = .next t) :=
  ⟨⟨_, rfl, by decide⟩, ⟨_, rfl, by decide⟩, ⟨_, rfl⟩, ⟨_, rfl⟩, ⟨_, rfl⟩, ⟨_, rfl⟩⟩

/-- For every operation a state in which it gives a next state. -/
theorem witness_EnvironmentFrame (i : Instr) :
    ∃ s t, exec i s = .next t := by
  cases i <;> exact ⟨blk (vec .relRead true 0#2 0#32 false 0#3) [io true 1#4], _, rfl⟩

/-- The invariants hold at reset and, at the ends of their ranges, in every control state. -/
theorem witness_StepKeepsInvariant :
    Invariant State.reset ∧ State.reset.regs = Regs.reset ∧
    Invariant (blk (vec .idle false 0#2 0#32 true 0b111#3) []) ∧
    Invariant (blk (vec .scan false 0#2 0#32 false 0#3) []) ∧
    Invariant (blk (vec .settle true 3#2 20#32 false 0#3) []) ∧
    Invariant (blk (vec .check true 3#2 0#32 false 0#3) []) ∧
    Invariant (blk (vec .relRead true 3#2 0#32 false 0#3) []) ∧
    Invariant (blkN .one (vec .relWait true 0#2 10#32 false 0#3) []) ∧
    Invariant (blk (vec .hsleep false 0#2 4294967295#32 false 0#3) []) := by
  refine ⟨?_, ?_, ?_, ?_, ?_, ?_, ?_, ?_, ?_⟩ <;> decide

/-- A step that gives a next state: `RDBTN` is accepted. -/
theorem witness_stepGivesNext : ∃ t, step offersRdbtn = .next t ∧ (inputs offersRdbtn).rst = false :=
  ⟨_, rfl, by decide⟩

theorem witness_StepIsTotal :
    CandInRange (blkN .three (vec .check true 2#2 0#32 false 0#3) []) ∧
    (blk (vec .check true 3#2 0#32 false 0#3) []).cfg.lines = .four := by decide

theorem witness_ResetStepBeatsEverything :
    (inputs (blk (vec .relRead true 3#2 9#32 true 0b111#3) [resetLine (some 0x100000009#33) true 0#4])).rst = true := by
  decide

theorem witness_LoadBeatsTick :
    (let s := offersSleep;
      (inputs s).rst = false ∧ (inputs s).tick = true ∧ s.regs.st = .idle ∧ (inputs s).cmdValid = true ∧
        decode (.cmd (inputs s).cmd) = .instr (.sleep 4294967295#32)) ∧
    (let s := blk (vec .scan false 0#2 0#32 false 0#3) [io true 7#4];
      (inputs s).rst = false ∧ (inputs s).tick = true ∧ s.regs.st = .scan ∧
        ¬AllHigh s.cfg.lines (inputs s).line) ∧
    (let s := blk (vec .relRead true 3#2 0#32 false 0#3) [io true 7#4];
      (inputs s).rst = false ∧ (inputs s).tick = true ∧ s.regs.st = .relRead ∧ CandInRange s ∧
        (inputs s).line.getLsbD s.regs.cand.toNat = false) := by
  refine ⟨?_, ?_, ?_⟩ <;> decide

/-- The premises of the statement on inputs that are not read. -/
abbrev ReadAlike (s : State) (i j : Inputs) : Prop :=
  i.rst = j.rst ∧
    (i.rst = false →
      (s.regs.st = .idle → i.cmdValid = j.cmdValid) ∧
      (s.regs.st = .idle → i.cmdValid = true → i.cmd.getLsbD 32 = j.cmd.getLsbD 32) ∧
      (s.regs.st = .idle → i.cmdValid = true → i.cmd.getLsbD 32 = true →
        i.cmd.setWidth 32 = j.cmd.setWidth 32) ∧
      (s.regs.st = .scan → ∀ c : LineIndex, c.toNat < s.cfg.lines.toNat →
        i.line.getLsbD c.toNat = j.line.getLsbD c.toNat) ∧
      (s.regs.st = .check ∨ s.regs.st = .relRead →
        i.line.getLsbD s.regs.cand.toNat = j.line.getLsbD s.regs.cand.toNat) ∧
      (s.regs.msCnt ≠ 0#32 → loads (present i s) = false → i.tick = j.tick))

/-- Two records that differ in all that is not read: in `CHECK`, at a reset step, in `IDLE` with the argument of `RDBTN`, in
`SCAN` of a block with three lines, and in a wait state with a nonzero counter. -/
theorem witness_InputsNotReadHaveNoEffect :
    ReadAlike (blk (vec .check true 2#2 0#32 false 0#3) []) (cio 0x100000009#33 true 0b0100#4) (io false 15#4) ∧
    ReadAlike (blk (vec .idle false 0#2 0#32 false 0#3) []) (resetLine (some 5#33) true 0#4) (resetLine none false 15#4) ∧
    ReadAlike (blk (vec .idle false 0#2 0#32 false 0#3) []) (cio 5#33 true 0#4) (cio 0x0FFFFFFFF#33 false 15#4) ∧
    ReadAlike (blkN .three (vec .scan false 0#2 0#32 false 0#3) []) (io true 0b0101#4) (cio 5#33 false 0b1101#4) ∧
    ReadAlike (blk (vec .settle true 2#2 1#32 false 0#3) []) (cio 5#33 true 0#4) (io true 15#4) := by
  refine ⟨?_, ?_, ?_, ?_, ?_⟩ <;> decide

/-- Two states between calls that differ in the response they hold. -/
theorem witness_CallsStartFresh :
    let s := blk (vec .idle false 0#2 0#32 true 0b111#3) [cio 0#33 true 7#4]
    let u := blk (vec .idle false 0#2 0#32 false 0b000#3) [cio 0#33 true 7#4]
    Invariant s ∧ Invariant u ∧ s.cfg = u.cfg ∧ s.script = u.script ∧ s.now = u.now ∧ s ≠ u ∧
    s.regs.st = .idle ∧ u.regs.st = .idle ∧ (inputs s).cmdValid = true := by decide

theorem witness_CounterFallsByTicksAlone :
    ∃ t, step (blk (vec .settle true 2#2 1#32 false 0#3) [io true 15#4]) = .next t ∧
      (inputs (blk (vec .settle true 2#2 1#32 false 0#3) [io true 15#4])).rst = false ∧
      (inputs (blk (vec .settle true 2#2 1#32 false 0#3) [io true 15#4])).tick = true ∧
      loads (blk (vec .settle true 2#2 1#32 false 0#3) [io true 15#4]) = false :=
  ⟨_, rfl, by decide, by decide, by decide⟩

/-- The same statement at a step without a tick, and at one whose tick finds the counter at 0. -/
theorem witness_CounterFallsByTicksAlone_kept :
    (∃ t, step (blk (vec .hsleep false 0#2 4294967295#32 false 0#3) [io false 15#4]) = .next t ∧
      (io false 15#4).rst = false ∧ (io false 15#4).tick = false ∧
      loads (blk (vec .hsleep false 0#2 4294967295#32 false 0#3) [io false 15#4]) = false) ∧
    (∃ t, step (blk (vec .settle true 2#2 0#32 false 0#3) [io true 15#4]) = .next t ∧
      (io true 15#4).rst = false ∧ loads (blk (vec .settle true 2#2 0#32 false 0#3) [io true 15#4]) = false) :=
  ⟨⟨_, rfl, by decide, by decide, by decide⟩, ⟨_, rfl, by decide, by decide⟩⟩

theorem witness_LoadsAndCompletionsFindZero :
    (∃ t, step (blk (vec .scan false 0#2 0#32 false 0#3) [io true 7#4]) = .next t ∧
      Invariant (blk (vec .scan false 0#2 0#32 false 0#3) [io true 7#4]) ∧
      loads (blk (vec .scan false 0#2 0#32 false 0#3) [io true 7#4]) = true) ∧
    (∃ t, step (blk (vec .relRead true 3#2 0#32 false 0#3) [io true 8#4]) = .next t ∧
      Invariant (blk (vec .relRead true 3#2 0#32 false 0#3) [io true 8#4]) ∧ t.regs.st = .idle) :=
  ⟨⟨_, rfl, by decide, by decide⟩, ⟨_, rfl, by decide, by decide⟩⟩

/-- A wait of two ticks, the second after a step without one. -/
def waiting : State := blk (vec .settle true 2#2 2#32 false 0#3) [io true 0#4, io false 15#4, io true 0#4, io true 0#4]

theorem witness_WaitLastsExactlyItsTicks :
    isWait waiting.regs.st = true ∧ NoReset waiting 4 ∧ ticksIn waiting 0 3 = waiting.regs.msCnt.toNat ∧
    ∀ m, m < 3 → ticksIn waiting 0 m < waiting.regs.msCnt.toNat := by decide

/-- A wait that is over at once. -/
theorem witness_WaitLastsExactlyItsTicks_zero :
    let s := blk (vec .hsleep false 0#2 0#32 false 0#3) [io false 15#4]
    isWait s.regs.st = true ∧ NoReset s 1 ∧ ticksIn s 0 0 = s.regs.msCnt.toNat := by decide

/-- Program P5: `sleep_ms(3)` with a tick at every second step. -/
def sleepThree : State :=
  blk (vec .idle false 0#2 0#32 false 0#3)
    [cio 0x100000003#33 true 15#4, io false 15#4, io true 15#4, io false 15#4, io true 15#4, io false 15#4,
      io true 15#4, io false 15#4]

theorem witness_SleepCallLastsItsTicks :
    sleepThree.regs.st = .idle ∧ (inputs sleepThree).cmdValid = true ∧
    decode (.cmd (inputs sleepThree).cmd) = .instr (.sleep 3#32) ∧ TicksAfter sleepThree 0 3#32 6 ∧
    NoReset sleepThree 8 ∧ TickLive sleepThree 1 3#32 6 := by decide

/-- P5: it is still asleep after step 7 and completes at step 8. -/
theorem test_sleepThree :
    regsOf (run 7 sleepThree) = some (vec .hsleep false 0#2 0#32 false 0#3) ∧
    regsOf (run 8 sleepThree) = some (vec .idle false 0#2 0#32 true 0#3) ∧ consumed 8 sleepThree = 3 := by decide

theorem witness_SleepZeroNeedsNoTick :
    let s := blk (vec .idle false 0#2 0#32 true 0b101#3) [cio 0x100000000#33 true 15#4, io false 15#4]
    s.regs.st = .idle ∧ (inputs s).cmdValid = true ∧ (inputs s).cmd = 0x100000000#33 ∧ NoReset s 2 := by decide

/-- Program P1: no line is low at the scan. -/
theorem witness_NoPressCallAnswersNoneAtOnce :
    let s := blk (vec .idle false 0#2 0#32 false 0#3) [cio 0#33 false 0#4, io false 15#4]
    Invariant s ∧ s.regs.st = .idle ∧ (inputs s).cmdValid = true ∧
    decode (.cmd (inputs s).cmd) = .instr .rdbtn ∧ AllHigh s.cfg.lines (inputsAt s 1).line ∧ NoReset s 2 := by decide

/-- A candidate that is high at its check, `SETTLE_MS = 2`. -/
def noise : State :=
  tiny (vec .idle false 0#2 0#32 false 0#3)
    [cio 0#33 true 15#4, io true 0b1101#4, io true 0#4, io true 0#4, io true 0#4, io true 0b0010#4]

theorem witness_NoiseCallAnswersNone :
    noise.regs.st = .idle ∧ (inputs noise).cmdValid = true ∧
    decode (.cmd (inputs noise).cmd) = .instr .rdbtn ∧ IsFirstLow noise.cfg.lines (inputsAt noise 1).line 1#2 ∧
    TicksAfter noise 1 noise.cfg.settleMs 2 ∧ lineAt noise 5 1#2 = true ∧ NoReset noise 6 := by decide

/-- Line 1 is low at the scan, the check and one poll, and high at the second poll: `SETTLE_MS = 2`, `POLL_MS = 1`. -/
def press : State :=
  tiny (vec .idle false 0#2 0#32 false 0#3)
    [cio 0#33 true 15#4, io true 0b1101#4, io true 15#4, io true 15#4, io true 15#4, io true 0b1101#4,
      io true 0b1101#4, io true 15#4, io true 15#4, io true 15#4]

theorem witness_PressCallAnswersItsLine :
    press.regs.st = .idle ∧ (inputs press).cmdValid = true ∧
    decode (.cmd (inputs press).cmd) = .instr .rdbtn ∧ IsFirstLow press.cfg.lines (inputsAt press 1).line 1#2 ∧
    TicksAfter press 1 press.cfg.settleMs 2 ∧ lineAt press 5 1#2 = false ∧ Polls press 1#2 6 1 9 ∧
    NoReset press 10 :=
  ⟨by decide, by decide, by decide, by decide, by decide, by decide,
    .held 6 1 0 9 (by decide) (by decide) (.released 9 (by decide)), by decide⟩

/-- The polls of a line that is released at once. -/
theorem witness_Polls_none : Polls press 1#2 9 0 9 := .released 9 (by decide)

/-- The call of `press` is in flight for nine steps. -/
theorem witness_InCall : InCall press 9 := by
  have busy : ∀ m, m < 9 → (regsOf (run (m + 1) press)).map Regs.st ≠ some .idle := by decide
  intro m u h0 hm hr hi
  obtain ⟨m, rfl⟩ := Nat.exists_eq_add_of_le' h0
  exact busy m (by omega) (by rw [hr]; simp [regsOf, hi])

/-- The call of `press` answers `Some(1)`, and not a step earlier. -/
theorem witness_SomeIsAnsweredOnlyForItsLine :
    press.regs.st = .idle ∧ (inputs press).cmdValid = true ∧
    decode (.cmd (inputs press).cmd) = .instr .rdbtn ∧ NoReset press 10 ∧
    (∀ m u, 0 < m → m ≤ 9 → run m press = .next u → u.regs.st ≠ .idle) ∧
    (∃ t, run 10 press = .next t ∧ t.regs.st = .idle ∧ t.regs.rspSome = true) :=
  ⟨by decide, by decide, by decide, by decide, witness_InCall, ⟨_, rfl, by decide, by decide⟩⟩

/-- The poll of `press` at step 9 reads its line high. -/
theorem witness_EveryRdbtnCompletesUnderLivenessAndRelease :
    press.regs.st = .idle ∧ (inputs press).cmdValid = true ∧
    decode (.cmd (inputs press).cmd) = .instr .rdbtn ∧ NoReset press (9 + 1) ∧ 2 + 4 ≤ 9 ∧
    TickLive press 2 press.cfg.settleMs 2 ∧ Released press 9 :=
  ⟨by decide, by decide, by decide, by decide, by decide, by decide,
    fun _ => ⟨9, le_rfl, witness_InCall, _, rfl, by decide, by decide⟩⟩

/-- Program P9 in short: no tick in a wait, with a command offered and every line low. -/
theorem witness_NoTickHangsForEver :
    let s := blk (vec .settle true 0#2 20#32 false 0#3) [cio 0#33 false 0#4, io false 15#4]
    isWait s.regs.st = true ∧ s.regs.msCnt ≠ 0#32 ∧
    (∀ k, k < 2 → (inputsAt s k).rst = false ∧ (inputsAt s k).tick = false) ∧ Invariant s := by decide

/-- Program P8 in short: line 3 low at a poll. -/
def stuckLow : State := tiny (vec .relRead true 3#2 0#32 false 0#3) [io true 7#4, io true 15#4]

theorem witness_StuckLowLineHangsForEver :
    Invariant stuckLow ∧ stuckLow.regs.st = .relRead ∧ NoReset stuckLow 2 ∧
    ∀ k u, k < 2 → run k stuckLow = .next u → u.regs.st = .relRead →
      lineAt stuckLow k stuckLow.regs.cand = false := by
  have low : lineAt stuckLow 0 stuckLow.regs.cand = false := by decide
  have wait : (regsOf (run 1 stuckLow)).map Regs.st = some .relWait := by decide
  refine ⟨by decide, by decide, by decide, ?_⟩
  intro k u hk hr hs
  obtain rfl | rfl : k = 0 ∨ k = 1 := by omega
  · exact low
  · rw [hr] at wait
    simp [regsOf, hs] at wait

theorem witness_SleepCompletesUnderTickLiveness :
    sleepThree.regs.st = .idle ∧ (inputs sleepThree).cmdValid = true ∧
    decode (.cmd (inputs sleepThree).cmd) = .instr (.sleep 3#32) ∧ NoReset sleepThree 8 ∧
    TickLive sleepThree 1 3#32 6 := by decide

/-- `press` with the line high from step 7 on: ticks for both intervals come within two steps. -/
def released : State :=
  tiny (vec .idle false 0#2 0#32 false 0#3)
    [cio 0#33 true 15#4, io true 0b1101#4, io true 15#4, io true 15#4, io true 15#4, io true 0b1101#4,
      io true 0b1101#4, io true 15#4, io true 15#4, io true 15#4, io true 15#4]

theorem witness_RdbtnCompletesUnderLivenessAndRelease :
    released.regs.st = .idle ∧ (inputs released).cmdValid = true ∧
    decode (.cmd (inputs released).cmd) = .instr .rdbtn ∧
    IsFirstLow released.cfg.lines (inputsAt released 1).line 1#2 ∧ 2 ≤ 7 ∧ NoReset released (7 + 2 + 2) ∧
    StaysHigh released 1#2 7 (7 + 2 + 2) ∧ TickLive released 7 released.cfg.settleMs 2 ∧
    TickLive released 7 released.cfg.pollMs 2 := by decide

theorem witness_WaitsCannotBeCancelled :
    isWait (blk (vec .hsleep false 0#2 4294967295#32 false 0#3) []).regs.st = true ∧
    (blk (vec .hsleep false 0#2 4294967295#32 false 0#3) []).regs.msCnt ≠ 0#32 ∧
    (cio 0#33 true 0#4).rst = false := by decide

theorem witness_OneCandidatePerCall :
    (∃ t, step (blk (vec .relRead true 3#2 0#32 false 0#3) [io true 7#4]) = .next t ∧
      holdsCandidate CtrlState.relRead = true) ∧
    (∃ t, step (blk (vec .scan false 0#2 0#32 false 0#3) [io true 7#4]) = .next t ∧ t.regs.candV = true) :=
  ⟨⟨_, rfl, by decide⟩, ⟨_, rfl, by decide⟩⟩

/-- A step that completes a command: the response becomes valid and the block idle. -/
theorem witness_completingStep :
    ∃ t, step (blk (vec .relRead true 3#2 0#32 false 0#3) [io true 8#4]) = .next t ∧
      (outputs (blk (vec .relRead true 3#2 0#32 false 0#3) [io true 8#4])).rspValid = false ∧
      (outputs t).rspValid = true ∧ (outputs t).busy = false ∧ t.regs.st = .idle :=
  ⟨_, rfl, by decide, by decide, by decide, by decide⟩

/-- A response held over a step without a command and cleared by the next. -/
theorem witness_IdleHoldsTheResponse :
    let s := blk (vec .idle false 0#2 0#32 true 0b101#3) [io true 0#4, cio 0#33 true 0#4]
    Invariant s ∧ s.regs.st = .idle ∧ (∀ k, k < 1 → (inputsAt s k).rst = false ∧ (inputsAt s k).cmdValid = false) ∧
    (inputsAt s 1).rst = false ∧ (inputsAt s 1).cmdValid = true := by decide

/-- From reset, one call that completes, and no step at all. -/
theorem witness_ResponseValidExactlyAfterCompletion :
    let s := blk Regs.reset [cio 0x100000000#33 false 15#4, io false 15#4]
    s.regs = Regs.reset ∧ NoReset s 2 ∧ (∃ t, run 2 s = .next t ∧ t.regs.st = .idle) ∧
      ∃ t, run 0 s = .next t ∧ t.regs.st = .idle :=
  ⟨by decide, by decide, ⟨_, rfl, by decide⟩, ⟨_, rfl, by decide⟩⟩

end Sys2Proof.Tests
end

/-! ### What a whole step keeps of the environment (R9, R22, R44) -/

namespace Sys2Proof.Machine

theorem KeepsEnvironment.refl (s : State) : KeepsEnvironment s s := ⟨rfl, rfl, rfl⟩

theorem KeepsEnvironment.trans {s t u : State} (hst : KeepsEnvironment s t) (htu : KeepsEnvironment t u) :
    KeepsEnvironment s u :=
  ⟨htu.cfg.trans hst.cfg, htu.script.trans hst.script, htu.now.trans hst.now⟩

theorem beginStep_keepsEnvironment (s : State) : KeepsEnvironment s (beginStep s) := ⟨rfl, rfl, rfl⟩

theorem KeepsEnvironment.inputsAt_eq {s t : State} (h : KeepsEnvironment s t) (k : Nat) :
    inputsAt t k = inputsAt s k :=
  inputsAt_congr h.script h.now k

theorem perform_keepsEnvironment {c : Code} {s t : State} (h : perform c s = .next t) :
    KeepsEnvironment s t := by
  unfold perform at h
  split at h
  · exact exec_keepsEnvironment h
  · cases h

theorem performAll_keepsEnvironment {cs : List Code} {s t : State} (h : performAll cs s = .next t) :
    KeepsEnvironment s t := by
  induction cs generalizing s with
  | nil => cases h; exact .refl _
  | cons c cs ih =>
    obtain ⟨u, hc, hcs⟩ := andThen_eq_next h
    exact (perform_keepsEnvironment hc).trans (ih hcs)

/-- A step that gives a next state performs its operations, and `endStep` alone then advances the stimulus (R9, R96). -/
theorem step_eq_next {s t : State} (h : step s = .next t) :
    ∃ u, performAll (fetchCodes s) (beginStep s) = .next u ∧ t = endStep u := by
  obtain ⟨u, hops, hend⟩ := andThen_eq_next h
  cases hend
  exact ⟨u, hops, rfl⟩

theorem exists_keepsEnvironment_endStep {s t : State} (h : step s = .next t) :
    ∃ u, KeepsEnvironment s u ∧ t = endStep u := by
  obtain ⟨u, hops, ht⟩ := step_eq_next h
  exact ⟨u, (beginStep_keepsEnvironment s).trans (performAll_keepsEnvironment hops), ht⟩

/-- Settles O30: the operations of a step keep the environment, so that only `endStep` moves it, by one record. -/
theorem stepTakesOneInputRecord : Obligations.StepTakesOneInputRecord := by
  intro s t h
  obtain ⟨u, hkeeps, rfl⟩ := exists_keepsEnvironment_endStep h
  refine ⟨hkeeps.cfg, ?_, ?_, rfl, fun k => ?_⟩
  · rw [endStep_script, hkeeps.script]
  · rw [endStep_now, hkeeps.now]
  · rw [inputsAt_endStep, hkeeps.inputsAt_eq]

end Sys2Proof.Machine

/-! ### How a step is made of its control operation and its tick (R96, R97) -/

namespace Sys2Proof.Machine

/-- The tick event of a step, performed after its control operation when `tick == 1` (R96 item 3). -/
def tickIf (b : Bool) (s : State) : State :=
  if b then countDown s else s

@[simp] theorem tickIf_false (s : State) : tickIf false s = s := rfl
@[simp] theorem tickIf_true (s : State) : tickIf true s = countDown s := rfl

theorem andThen_assoc (o : Host.Outcome State Fault Refusal)
    (f g : State → Host.Outcome State Fault Refusal) :
    andThen (andThen o f) g = andThen o (fun u => andThen (f u) g) := by
  cases o <;> rfl

theorem step_of_rst {s : State} (h : (inputs s).rst = true) : step s = .next (endStep (resetRegs s)) := by
  simp only [step, stepOnce, fetchCodes, h, if_true]
  rfl

theorem step_of_not_rst {s : State} (h : (inputs s).rst = false) :
    step s = andThen (exec s.regs.st.instr (beginStep s))
      (fun u => .next (endStep (tickIf (inputs s).tick u))) := by
  cases ht : (inputs s).tick <;>
    simp [step, stepOnce, fetchCodes, h, ht, performAll, andThen_assoc, exec, execTick]

/-! ### What each operation can answer -/

theorem acceptCommand_cases (body : State → State) (s : State) :
    acceptCommand body s = body (clearResponse s) ∨ acceptCommand body s = s := by
  by_cases h : s.regs.st = .idle
  · exact .inl (acceptCommand_ready body h)
  · exact .inr (acceptCommand_busy body h)

theorem waitZero_cases (leave : State → State) (s : State) :
    (s.regs.msCnt = 0#32 ∧ waitZero leave s = leave s) ∨ (s.regs.msCnt ≠ 0#32 ∧ waitZero leave s = s) := by
  by_cases h : s.regs.msCnt = 0#32
  · exact .inl ⟨h, waitZero_zero leave h⟩
  · exact .inr ⟨h, waitZero_nonzero leave h⟩

theorem onLevel_eq_next_iff {i : LineIndex} {high low : State → State} {s t : State} :
    onLevel i high low s = .next t ↔ i.toNat < s.cfg.lines.toNat ∧
      (((inputs s).line.getLsbD i.toNat = true ∧ t = high s) ∨
        ((inputs s).line.getLsbD i.toNat = false ∧ t = low s)) := by
  by_cases h : i.toNat < s.cfg.lines.toNat
  · cases hl : (inputs s).line.getLsbD i.toNat
    · simp [onLevel_low high low h hl, h, eq_comm]
    · simp [onLevel_high high low h hl, h, eq_comm]
  · simp [onLevel_out_of_range high low h, h]

theorem offered_rdbtn_iff (s : State) : offered s = .rdbtn ↔ (inputs s).cmd.getLsbD 32 = false := by
  cases h : (inputs s).cmd.getLsbD 32 <;> simp only [offered, decodeCmd, h] <;> simp

theorem offered_sleep_iff (s : State) (d : Word) :
    offered s = .sleep d ↔ (inputs s).cmd.getLsbD 32 = true ∧ (inputs s).cmd.extractLsb' 0 32 = d := by
  cases h : (inputs s).cmd.getLsbD 32 <;> simp only [offered, decodeCmd, h] <;> simp

theorem exec_rdbtn_of_idle {s : State} (h : s.regs.st = .idle) :
    exec .rdbtn s = .next (setSt .scan (clearCandidate (clearResponse s))) :=
  congrArg _ (acceptCommand_ready _ h)

theorem exec_sleep_of_idle (d : Word) {s : State} (h : s.regs.st = .idle) :
    exec (.sleep d) s = .next (setSt .hsleep (tbLoad d (clearResponse s))) :=
  congrArg _ (acceptCommand_ready _ h)

/-- IDLE is the command it is offered, and nothing when it is offered none (R80). -/
theorem exec_idle_of_no_command {s : State} (h : (inputs s).cmdValid = false) : exec .idle s = .next s := by
  simp [exec, execIdle, h]

theorem exec_idle_of_command {s : State} (h : (inputs s).cmdValid = true) :
    exec .idle s = exec (offered s).instr s := by
  cases ho : offered s <;> simp [exec, execIdle, h, ho, Command.instr]

theorem lowestZero_eq_none_iff (n : LineCount) (v : LineVec) : lowestZero n v = none ↔ AllHigh n v := by
  simp [lowestZero, AllHigh, isLow_iff, mem_lineIndices]

/-- `first_low` in the words of R87. -/
theorem lowestZero_eq_some_iff (n : LineCount) (v : LineVec) (c : LineIndex) :
    lowestZero n v = some c ↔ IsFirstLow n v c := by
  cases n <;> revert v c <;> decide

theorem firstLow_eq_none_iff (s : State) : firstLow s = none ↔ AllHigh s.cfg.lines (inputs s).line :=
  lowestZero_eq_none_iff _ _

theorem firstLow_eq_some_iff (s : State) (c : LineIndex) :
    firstLow s = some c ↔ IsFirstLow s.cfg.lines (inputs s).line c :=
  lowestZero_eq_some_iff _ _ c

theorem exec_scan_of_allHigh {s : State} (h : AllHigh s.cfg.lines (inputs s).line) :
    exec .scan s = .next (complete none s) := by
  simp [exec, execScan, (firstLow_eq_none_iff s).2 h]

theorem exec_scan_of_isFirstLow {s : State} {c : LineIndex} (h : IsFirstLow s.cfg.lines (inputs s).line c) :
    exec .scan s = .next (setSt .settle (tbLoad s.cfg.settleMs (setCandidate c s))) := by
  simp [exec, execScan, (firstLow_eq_some_iff s c).2 h, settleDuration]

theorem allHigh_or_exists_isFirstLow (n : LineCount) (v : LineVec) :
    AllHigh n v ∨ ∃ c, IsFirstLow n v c := by
  cases h : lowestZero n v with
  | none => exact .inl ((lowestZero_eq_none_iff n v).1 h)
  | some c => exact .inr ⟨c, (lowestZero_eq_some_iff n v c).1 h⟩

theorem exec_check_eq_next_iff {s t : State} :
    exec .check s = .next t ↔ CandInRange s ∧
      (((inputs s).line.getLsbD s.regs.cand.toNat = true ∧ t = complete none s) ∨
        ((inputs s).line.getLsbD s.regs.cand.toNat = false ∧ t = setSt .relRead s)) :=
  onLevel_eq_next_iff (high := complete none) (low := setSt .relRead)

theorem exec_relRead_eq_next_iff {s t : State} :
    exec .relRead s = .next t ↔ CandInRange s ∧
      (((inputs s).line.getLsbD s.regs.cand.toNat = true ∧ t = complete (some s.regs.cand) s) ∨
        ((inputs s).line.getLsbD s.regs.cand.toNat = false ∧
          t = setSt .relWait (tbLoad s.cfg.pollMs s))) :=
  onLevel_eq_next_iff (high := complete (some s.regs.cand))
    (low := fun t => setSt .relWait (tbLoad (pollDuration t) t))

/-! ### Every way a control operation can go (the rows of R103 without reset and tick) -/

/-- The control operation of the state `s`, performed on its own registers and inputs, can give `t`: the rows of R103
but for reset, each without the tick that may follow it. -/
inductive ControlMove (s : State) : State → Prop where
  | idles (hst : s.regs.st = .idle) (hcmd : (inputs s).cmdValid = false) : ControlMove s s
  | acceptsRdbtn (hst : s.regs.st = .idle) (hcmd : (inputs s).cmdValid = true) (ho : offered s = .rdbtn) :
      ControlMove s (setSt .scan (clearCandidate (clearResponse s)))
  | acceptsSleep (d : Word) (hst : s.regs.st = .idle) (hcmd : (inputs s).cmdValid = true)
      (ho : offered s = .sleep d) : ControlMove s (setSt .hsleep (tbLoad d (clearResponse s)))
  | scansNone (hst : s.regs.st = .scan) (hv : AllHigh s.cfg.lines (inputs s).line) :
      ControlMove s (complete none s)
  | scansCandidate (c : LineIndex) (hst : s.regs.st = .scan) (hv : IsFirstLow s.cfg.lines (inputs s).line c) :
      ControlMove s (setSt .settle (tbLoad s.cfg.settleMs (setCandidate c s)))
  | waits (hst : isWait s.regs.st = true) (hms : s.regs.msCnt ≠ 0#32) : ControlMove s s
  | settles (hst : s.regs.st = .settle) (hms : s.regs.msCnt = 0#32) : ControlMove s (setSt .check s)
  | discards (hst : s.regs.st = .check) (hc : CandInRange s)
      (hl : (inputs s).line.getLsbD s.regs.cand.toNat = true) : ControlMove s (complete none s)
  | confirms (hst : s.regs.st = .check) (hc : CandInRange s)
      (hl : (inputs s).line.getLsbD s.regs.cand.toNat = false) : ControlMove s (setSt .relRead s)
  | reports (hst : s.regs.st = .relRead) (hc : CandInRange s)
      (hl : (inputs s).line.getLsbD s.regs.cand.toNat = true) : ControlMove s (complete (some s.regs.cand) s)
  | polls (hst : s.regs.st = .relRead) (hc : CandInRange s)
      (hl : (inputs s).line.getLsbD s.regs.cand.toNat = false) :
      ControlMove s (setSt .relWait (tbLoad s.cfg.pollMs s))
  | rereads (hst : s.regs.st = .relWait) (hms : s.regs.msCnt = 0#32) : ControlMove s (setSt .relRead s)
  | wakes (hst : s.regs.st = .hsleep) (hms : s.regs.msCnt = 0#32) : ControlMove s (complete none s)

theorem controlMove_of_exec {s t : State} (h : exec s.regs.st.instr s = .next t) : ControlMove s t := by
  cases hst : s.regs.st with rw [hst] at h
  | idle =>
    cases hcmd : (inputs s).cmdValid with
    | false =>
      cases (exec_idle_of_no_command hcmd).symm.trans h
      exact .idles hst hcmd
    | true =>
      replace h := (exec_idle_of_command hcmd).symm.trans h
      cases ho : offered s with rw [ho] at h
      | rdbtn =>
        cases (exec_rdbtn_of_idle hst).symm.trans h
        exact .acceptsRdbtn hst hcmd ho
      | sleep d =>
        cases (exec_sleep_of_idle d hst).symm.trans h
        exact .acceptsSleep d hst hcmd ho
  | scan =>
    obtain hv | ⟨c, hv⟩ := allHigh_or_exists_isFirstLow s.cfg.lines (inputs s).line
    · cases (exec_scan_of_allHigh hv).symm.trans h
      exact .scansNone hst hv
    · cases (exec_scan_of_isFirstLow hv).symm.trans h
      exact .scansCandidate c hst hv
  | settle =>
    cases h
    obtain ⟨hms, he⟩ | ⟨hms, he⟩ := waitZero_cases (setSt .check) s <;> rw [he]
    · exact .settles hst hms
    · exact .waits (by rw [hst]; rfl) hms
  | check =>
    obtain ⟨hc, ⟨hl, rfl⟩ | ⟨hl, rfl⟩⟩ := exec_check_eq_next_iff.1 h
    · exact .discards hst hc hl
    · exact .confirms hst hc hl
  | relRead =>
    obtain ⟨hc, ⟨hl, rfl⟩ | ⟨hl, rfl⟩⟩ := exec_relRead_eq_next_iff.1 h
    · exact .reports hst hc hl
    · exact .polls hst hc hl
  | relWait =>
    cases h
    obtain ⟨hms, he⟩ | ⟨hms, he⟩ := waitZero_cases (setSt .relRead) s <;> rw [he]
    · exact .rereads hst hms
    · exact .waits (by rw [hst]; rfl) hms
  | hsleep =>
    cases h
    obtain ⟨hms, he⟩ | ⟨hms, he⟩ := waitZero_cases (complete none) s <;> rw [he]
    · exact .wakes hst hms
    · exact .waits (by rw [hst]; rfl) hms

/-- A wait state with a nonzero counter stays as it is (R70). -/
theorem exec_of_waiting {s : State} (hst : isWait s.regs.st = true) (hms : s.regs.msCnt ≠ 0#32) :
    exec s.regs.st.instr s = .next s := by
  cases hk : s.regs.st with
  | settle | relWait | hsleep => exact congrArg _ (waitZero_nonzero _ hms)
  | idle | scan | check | relRead => simp [hk, isWait] at hst

theorem exec_of_controlMove {s t : State} (h : ControlMove s t) : exec s.regs.st.instr s = .next t := by
  cases h with
  | idles hst hcmd => rw [hst]; exact exec_idle_of_no_command hcmd
  | acceptsRdbtn hst hcmd ho =>
    rw [hst]
    refine (exec_idle_of_command hcmd).trans ?_
    rw [ho]
    exact exec_rdbtn_of_idle hst
  | acceptsSleep d hst hcmd ho =>
    rw [hst]
    refine (exec_idle_of_command hcmd).trans ?_
    rw [ho]
    exact exec_sleep_of_idle d hst
  | scansNone hst hv => rw [hst]; exact exec_scan_of_allHigh hv
  | scansCandidate c hst hv => rw [hst]; exact exec_scan_of_isFirstLow hv
  | waits hst hms => exact exec_of_waiting hst hms
  | settles hst hms => rw [hst]; exact congrArg _ (waitZero_zero _ hms)
  | discards hst hc hl => rw [hst]; exact exec_check_eq_next_iff.2 ⟨hc, .inl ⟨hl, rfl⟩⟩
  | confirms hst hc hl => rw [hst]; exact exec_check_eq_next_iff.2 ⟨hc, .inr ⟨hl, rfl⟩⟩
  | reports hst hc hl => rw [hst]; exact exec_relRead_eq_next_iff.2 ⟨hc, .inl ⟨hl, rfl⟩⟩
  | polls hst hc hl => rw [hst]; exact exec_relRead_eq_next_iff.2 ⟨hc, .inr ⟨hl, rfl⟩⟩
  | rereads hst hms => rw [hst]; exact congrArg _ (waitZero_zero _ hms)
  | wakes hst hms => rw [hst]; exact congrArg _ (waitZero_zero _ hms)

theorem exec_control_iff {s t : State} : exec s.regs.st.instr s = .next t ↔ ControlMove s t :=
  ⟨controlMove_of_exec, exec_of_controlMove⟩

/-- A candidate that names a line lets every control operation go on (R38, R98). -/
theorem exists_controlMove {s : State} (hc : CandInRange s) : ∃ t, ControlMove s t := by
  suffices ∃ t, exec s.regs.st.instr s = .next t from this.imp fun _ => controlMove_of_exec
  cases hst : s.regs.st with
  | idle =>
    cases hcmd : (inputs s).cmdValid with
    | false => exact ⟨_, exec_idle_of_no_command hcmd⟩
    | true =>
      refine (exec_idle_of_command hcmd).symm ▸ ?_
      cases offered s <;> exact ⟨_, rfl⟩
  | scan =>
    obtain hv | ⟨c, hv⟩ := allHigh_or_exists_isFirstLow s.cfg.lines (inputs s).line
    · exact ⟨_, exec_scan_of_allHigh hv⟩
    · exact ⟨_, exec_scan_of_isFirstLow hv⟩
  | check =>
    cases hl : (inputs s).line.getLsbD s.regs.cand.toNat with
    | false => exact ⟨_, exec_check_eq_next_iff.2 ⟨hc, .inr ⟨hl, rfl⟩⟩⟩
    | true => exact ⟨_, exec_check_eq_next_iff.2 ⟨hc, .inl ⟨hl, rfl⟩⟩⟩
  | relRead =>
    cases hl : (inputs s).line.getLsbD s.regs.cand.toNat with
    | false => exact ⟨_, exec_relRead_eq_next_iff.2 ⟨hc, .inr ⟨hl, rfl⟩⟩⟩
    | true => exact ⟨_, exec_relRead_eq_next_iff.2 ⟨hc, .inl ⟨hl, rfl⟩⟩⟩
  | settle | relWait | hsleep => exact ⟨_, rfl⟩

/-- Every way a step can go: reset alone, or a control operation and then the tick (R96, R97). -/
theorem step_eq_next_iff {s t : State} :
    step s = .next t ↔
      ((inputs s).rst = true ∧ t = endStep (resetRegs s)) ∨
      ((inputs s).rst = false ∧ ∃ u, ControlMove (beginStep s) u ∧ t = endStep (tickIf (inputs s).tick u)) := by
  cases hr : (inputs s).rst with
  | true => simp [step_of_rst hr, eq_comm]
  | false =>
    rw [step_of_not_rst hr]
    simp only [Bool.false_eq_true, false_and, true_and, false_or]
    constructor
    · intro h
      obtain ⟨u, hu, ht⟩ := andThen_eq_next h
      cases ht
      exact ⟨u, exec_control_iff.1 hu, rfl⟩
    · rintro ⟨u, hu, rfl⟩
      rw [show exec s.regs.st.instr (beginStep s) = .next u from exec_control_iff.2 hu, andThen_next]

end Sys2Proof.Machine

/-! ### What each operation leaves unchanged (R14) -/

namespace Sys2Proof.Machine

theorem countDown_regs (s : State) :
    (countDown s).regs = { s.regs with msCnt := (countDown s).regs.msCnt } := by
  apply regs_ext <;> simp

/-- A wait that goes on to the state `k` writes `st` alone (R70). -/
theorem waitZero_setSt_frame (k : CtrlState) (s : State) :
    (waitZero (setSt k) s).regs = { s.regs with st := (waitZero (setSt k) s).regs.st } ∧
      (waitZero (setSt k) s).loaded = s.loaded := by
  obtain ⟨-, he⟩ | ⟨-, he⟩ := waitZero_cases (setSt k) s <;> rw [he] <;> exact ⟨rfl, rfl⟩

/-- Settles O24. -/
theorem tickAndWaitsFrame : Obligations.TickAndWaitsFrame := by
  refine fun s t => ⟨fun h => ?_, fun h => ?_, fun h => ?_⟩ <;> cases h
  · exact ⟨countDown_regs s, countDown_loaded s⟩
  · exact waitZero_setSt_frame .check s
  · exact waitZero_setSt_frame .relRead s

theorem exec_rdbtn_frame {s t : State} (h : exec .rdbtn s = .next t) :
    t.regs.msCnt = s.regs.msCnt ∧ t.loaded = s.loaded := by
  cases h
  obtain he | he := acceptCommand_cases (fun t => setSt .scan (clearCandidate t)) s <;> rw [he] <;> exact ⟨rfl, rfl⟩

theorem exec_sleep_frame {d : Word} {s t : State} (h : exec (.sleep d) s = .next t) :
    t.regs.candV = s.regs.candV ∧ t.regs.cand = s.regs.cand := by
  cases h
  obtain he | he := acceptCommand_cases (fun t => setSt .hsleep (tbLoad d t)) s <;> rw [he] <;> exact ⟨rfl, rfl⟩

/-- IDLE answers as it stands, or as the command it is offered. -/
theorem exec_idle_cases {s t : State} (h : exec .idle s = .next t) :
    t = s ∨ ((inputs s).cmdValid = true ∧ exec (offered s).instr s = .next t) := by
  cases hcmd : (inputs s).cmdValid with
  | false => cases (exec_idle_of_no_command hcmd).symm.trans h; exact .inl rfl
  | true => exact .inr ⟨rfl, (exec_idle_of_command hcmd).symm.trans h⟩

/-- Settles O25: IDLE has the frame of the command it performs. -/
theorem commandFrame : Obligations.CommandFrame := by
  refine fun s t d => ⟨exec_rdbtn_frame, exec_sleep_frame, fun h hno => ?_, fun h hno => ?_⟩ <;>
    obtain rfl | ⟨hcmd, h⟩ := exec_idle_cases h
  · exact ⟨rfl, rfl⟩
  · have ho : offered s = .rdbtn := (offered_rdbtn_iff s).2 (hno.resolve_left (by simp [hcmd]))
    rw [ho] at h
    exact exec_rdbtn_frame h
  · exact ⟨rfl, rfl⟩
  · have ho : offered s = .sleep _ := (offered_sleep_iff s _).2 ⟨hno.resolve_left (by simp [hcmd]), rfl⟩
    rw [ho] at h
    exact exec_sleep_frame h

theorem exec_scan_frame {s t : State} (h : exec .scan s = .next t) :
    (AllHigh s.cfg.lines (inputs s).line → t.regs.msCnt = s.regs.msCnt ∧ t.loaded = s.loaded) ∧
    (¬AllHigh s.cfg.lines (inputs s).line →
      t.regs.rspV = s.regs.rspV ∧ t.regs.rspSome = s.regs.rspSome ∧ t.regs.rspIdx = s.regs.rspIdx) := by
  constructor <;> intro hv
  · cases (exec_scan_of_allHigh hv).symm.trans h
    exact ⟨rfl, rfl⟩
  · obtain ⟨c, hc⟩ := (allHigh_or_exists_isFirstLow _ _).resolve_left hv
    cases (exec_scan_of_isFirstLow hc).symm.trans h
    exact ⟨rfl, rfl, rfl⟩

theorem exec_hsleep_frame {s t : State} (h : exec .hsleep s = .next t) :
    t.regs.msCnt = s.regs.msCnt ∧ t.loaded = s.loaded := by
  cases h
  obtain ⟨-, he⟩ | ⟨-, he⟩ := waitZero_cases (complete none) s <;> rw [he] <;> exact ⟨rfl, rfl⟩

/-- Settles O26. -/
theorem samplingFrame : Obligations.SamplingFrame := by
  refine fun s t => ⟨exec_scan_frame, fun h => ?_, fun h => ?_, exec_hsleep_frame⟩
  · obtain ⟨-, ⟨hl, rfl⟩ | ⟨hl, rfl⟩⟩ := exec_check_eq_next_iff.1 h
    · exact ⟨rfl, rfl, by simp [hl]⟩
    · exact ⟨rfl, rfl, fun _ => rfl⟩
  · obtain ⟨-, ⟨hl, rfl⟩ | ⟨hl, rfl⟩⟩ := exec_relRead_eq_next_iff.1 h
    · exact ⟨fun _ => ⟨rfl, rfl⟩, by simp [hl]⟩
    · exact ⟨by simp [hl], fun _ => rfl⟩

end Sys2Proof.Machine

/-! ### The invariants of R25 -/

namespace Sys2Proof.Machine

/-- Settles O28. -/
theorem invariantAfterReset : Obligations.InvariantAfterReset := by
  suffices h : ∀ s : State, s.regs = Regs.reset → Invariant s from ⟨h _ rfl, h⟩
  intro s hs
  have hlines : 0 < s.cfg.lines.toNat := by cases s.cfg.lines <;> decide
  simp [Invariant, hs, Regs.reset, holdsCandidate, hlines]

/-- Outside the waits the counter is 0 (R25 I4). -/
theorem msCnt_eq_zero_of_counterBound {s : State} (hms : s.regs.msCnt.toNat ≤ counterBound s.cfg s.regs.st)
    (hst : isWait s.regs.st = false) : s.regs.msCnt = 0#32 := by
  apply BitVec.eq_of_toNat_eq
  cases hk : s.regs.st with
  | idle | scan | check | relRead => simpa [hk, counterBound] using hms
  | settle | relWait | hsleep => simp [hk, isWait] at hst

theorem countDown_msCnt_le (s : State) : (countDown s).regs.msCnt.toNat ≤ s.regs.msCnt.toNat := by
  unfold countDown
  split
  next h => exact (toNat_decrement h.2).le.trans (Nat.sub_le _ _)
  next => exact le_rfl

/-- The tick keeps the invariants: it can only lower the counter. -/
theorem Invariant.after_tick {s : State} (hs : Invariant s) (b : Bool) : Invariant (tickIf b s) := by
  obtain ⟨hv, hc, hc0, hms, hbusy, hsome, hnone⟩ := hs
  cases b with
  | false => exact ⟨hv, hc, hc0, hms, hbusy, hsome, hnone⟩
  | true =>
    have hle := (countDown_msCnt_le s).trans hms
    simp_all [Invariant]

/-- `Complete` keeps the invariants when the counter has run out and the reported line exists (R92). -/
theorem Invariant.after_complete {s : State} {r : Option LineIndex} (hs : Invariant s) (hms : s.regs.msCnt = 0#32)
    (hr : ∀ i, r = some i → i.toNat < s.cfg.lines.toNat) : Invariant (complete r s) := by
  have hlines := (Nat.zero_le _).trans_lt hs.2.1
  cases r <;> simp_all [Invariant, holdsCandidate]

/-- So does a change among the states of a call that hold a candidate, and among those that hold none. -/
theorem Invariant.after_setSt {s : State} {k : CtrlState} (hs : Invariant s) (hst : s.regs.st ≠ .idle)
    (hk : holdsCandidate k = holdsCandidate s.regs.st) (hms : s.regs.msCnt = 0#32) : Invariant (setSt k s) := by
  obtain ⟨hv, hc, hc0, -, hbusy, hsome, hnone⟩ := hs
  exact ⟨hv.trans hk.symm, hc, hc0, by simp [hms], fun _ => hbusy hst, hsome, hnone⟩

/-- Every control operation keeps the invariants. -/
theorem ControlMove.invariant {s t : State} (h : ControlMove s t) (hs : Invariant s) : Invariant t := by
  have ⟨hv, hc, hc0, hms, hbusy, hsome, hnone⟩ := hs
  have hlines := (Nat.zero_le _).trans_lt hc
  have hzero := msCnt_eq_zero_of_counterBound hms
  cases h with
  | idles | waits => exact hs
  | acceptsRdbtn hst => simp [Invariant, holdsCandidate, counterBound, hlines, hzero, hst, isWait]
  | acceptsSleep d hst =>
    have hv' : s.regs.candV = false := by simpa [hst, holdsCandidate] using hv
    have hd : d.toNat ≤ 4294967295 := Nat.le_of_lt_succ d.isLt
    simp [Invariant, holdsCandidate, counterBound, hlines, hv', hc0 hv', hd]
  | scansCandidate c hst hv =>
    have hno : s.regs.rspV = false := hbusy (by simp [hst])
    simpa [Invariant, holdsCandidate, counterBound, hv.1, hno] using And.intro hsome hnone
  | polls hst =>
    have hyes : s.regs.candV = true := by simpa [hst, holdsCandidate] using hv
    have hno : s.regs.rspV = false := hbusy (by simp [hst])
    simpa [Invariant, holdsCandidate, counterBound, hyes, hno] using And.intro hc (And.intro hsome hnone)
  | settles hst hms => exact hs.after_setSt (by simp [hst]) (by rw [hst]; rfl) hms
  | rereads hst hms => exact hs.after_setSt (by simp [hst]) (by rw [hst]; rfl) hms
  | confirms hst => exact hs.after_setSt (by simp [hst]) (by rw [hst]; rfl) (hzero (by rw [hst]; rfl))
  | scansNone hst | discards hst => exact hs.after_complete (hzero (by rw [hst]; rfl)) nofun
  | wakes hst hms => exact hs.after_complete hms nofun
  | reports hst => exact hs.after_complete (hzero (by rw [hst]; rfl)) fun i hi => by cases hi; exact hc

/-- Settles O29: a candidate in range makes the control operation go on, and it, the tick and reset each keep the
invariants. -/
theorem stepKeepsInvariant : Obligations.StepKeepsInvariant := by
  intro s hs
  cases hr : (inputs s).rst with
  | true => exact ⟨_, step_of_rst hr, invariantAfterReset.2 _ rfl⟩
  | false =>
    obtain ⟨u, hu⟩ := exists_controlMove (s := beginStep s) hs.2.1
    exact ⟨_, step_eq_next_iff.2 (.inr ⟨hr, u, hu, rfl⟩),
      (hu.invariant (s := beginStep s) hs).after_tick (inputs s).tick⟩

end Sys2Proof.Machine

/-! ### Runs, step by step (R96) -/

namespace Sys2Proof.Machine

/-- A run of `n + 1` steps is a run of `n` and one step more. -/
theorem run_succ_eq_andThen_step (n : Nat) (s : State) : run (n + 1) s = andThen (run n s) step := by
  induction n generalizing s with
  | zero => cases h : step s <;> simp [run, h]
  | succ n ih =>
    rw [run_succ, run_succ, andThen_assoc]
    exact congrArg (andThen (step s)) (funext ih)

/-- The last step of a run that gives a next state. -/
theorem run_succ_eq_next {n : Nat} {s t : State} (h : run (n + 1) s = .next t) :
    ∃ u, run n s = .next u ∧ step u = .next t :=
  andThen_eq_next ((run_succ_eq_andThen_step n s).symm.trans h)

/-- A run takes one input record a step and leaves the parameters. -/
theorem run_environment {n : Nat} {s t : State} (h : run n s = .next t) :
    t.cfg = s.cfg ∧ ∀ k, inputsAt t k = inputsAt s (n + k) := by
  induction n generalizing t with
  | zero => cases h; exact ⟨rfl, fun k => by rw [Nat.zero_add]⟩
  | succ n ih =>
    obtain ⟨u, hu, hut⟩ := run_succ_eq_next h
    obtain ⟨hcfg, -, -, -, hin⟩ := stepTakesOneInputRecord u t hut
    refine ⟨hcfg.trans (ih hu).1, fun k => ?_⟩
    rw [hin, (ih hu).2, Nat.add_assoc, Nat.add_comm k 1, ← Nat.add_assoc n 1 k]

theorem inputs_of_run {n : Nat} {s t : State} (h : run n s = .next t) : inputs t = inputsAt s n :=
  (run_environment h).2 0

theorem step_invariant {s t : State} (h : step s = .next t) (hs : Invariant s) : Invariant t := by
  obtain ⟨u, hu, hinv⟩ := stepKeepsInvariant s hs
  cases hu.symm.trans h
  exact hinv

/-- The induction of R25: what every run from a state with the invariants reaches has them. -/
theorem run_invariant {n : Nat} {s t : State} (h : run n s = .next t) (hs : Invariant s) : Invariant t := by
  induction n generalizing t with
  | zero => cases h; exact hs
  | succ n ih =>
    obtain ⟨u, hu, hut⟩ := run_succ_eq_next h
    exact step_invariant hut (ih hu)

/-! ### The response register along a run (R25 I5) -/

@[simp] theorem tickIf_st (b : Bool) (s : State) : (tickIf b s).regs.st = s.regs.st := by cases b <;> simp
@[simp] theorem tickIf_rspV (b : Bool) (s : State) : (tickIf b s).regs.rspV = s.regs.rspV := by cases b <;> simp

/-- A control operation completes the command and shows the response, or shows no new one; and IDLE that stays in IDLE
holds the response. -/
theorem ControlMove.rspV {s t : State} (h : ControlMove s t) :
    (s.regs.st ≠ .idle ∧ t.regs.st = .idle ∧ t.regs.rspV = true) ∨
    ((t.regs.rspV = true → s.regs.rspV = true) ∧
      (t.regs.st = .idle → s.regs.st = .idle ∧ t.regs.rspV = s.regs.rspV)) := by
  cases h with
  | idles hst => exact .inr ⟨id, fun _ => ⟨hst, rfl⟩⟩
  | waits hst => exact .inr ⟨id, fun h => by simp [h, isWait] at hst⟩
  | scansNone hst | discards hst | reports hst | wakes hst => exact .inl ⟨by simp [hst], rfl, rfl⟩
  | acceptsRdbtn | acceptsSleep | scansCandidate | settles | confirms | polls | rereads => simp

theorem step_rspV {s t : State} (h : step s = .next t) (hr : (inputs s).rst = false) :
    (s.regs.st ≠ .idle ∧ t.regs.st = .idle ∧ t.regs.rspV = true) ∨
    ((t.regs.rspV = true → s.regs.rspV = true) ∧
      (t.regs.st = .idle → s.regs.st = .idle ∧ t.regs.rspV = s.regs.rspV)) := by
  obtain ⟨hr', -⟩ | ⟨-, u, hu, rfl⟩ := step_eq_next_iff.1 h
  · simp [hr] at hr'
  · simpa using hu.rspV

theorem not_completed_zero (s : State) : ¬Completed s 0 := by
  rintro ⟨j, _, _, hj, -⟩
  exact absurd hj (Nat.not_lt_zero j)

/-- Whether a run completes a command is decided step by step. -/
theorem completed_succ_iff {n : Nat} {s u t : State} (hu : run n s = .next u) (hut : step u = .next t) :
    Completed s (n + 1) ↔ Completed s n ∨ (u.regs.st ≠ .idle ∧ t.regs.st = .idle) := by
  constructor
  · rintro ⟨j, u', t', hj, hu', hut', hst⟩
    obtain hj | rfl := Nat.lt_succ_iff_lt_or_eq.1 hj
    · exact .inl ⟨j, u', t', hj, hu', hut', hst⟩
    · cases hu.symm.trans hu'
      cases hut.symm.trans hut'
      exact .inr hst
  · rintro (⟨j, u', t', hj, h⟩ | hst)
    · exact ⟨j, u', t', hj.trans (Nat.lt_succ_self n), h⟩
    · exact ⟨n, u, t, Nat.lt_succ_self n, hu, hut, hst⟩

/-- From the reset registers and without a reset, a response shows only after a completion, and shows at every step in
IDLE after one. -/
theorem rspV_of_run_from_reset {n : Nat} {s t : State} (hs : s.regs = Regs.reset) (hr : NoReset s n)
    (h : run n s = .next t) :
    (t.regs.rspV = true → Completed s n) ∧ (t.regs.st = .idle → Completed s n → t.regs.rspV = true) := by
  induction n generalizing t with
  | zero =>
    cases h
    exact ⟨by simp [hs, Regs.reset], fun _ hc => absurd hc (not_completed_zero s)⟩
  | succ n ih =>
    obtain ⟨u, hu, hut⟩ := run_succ_eq_next h
    have hru : (inputs u).rst = false := inputs_of_run hu ▸ hr n (Nat.lt_succ_self n)
    have ⟨hshown, hheld⟩ := ih (fun k hk => hr k (hk.trans (Nat.lt_succ_self n))) hu
    rw [completed_succ_iff hu hut]
    obtain ⟨hust, htst, hv⟩ | ⟨hback, hidle⟩ := step_rspV hut hru
    · exact ⟨fun _ => .inr ⟨hust, htst⟩, fun _ _ => hv⟩
    · refine ⟨fun hv => .inl (hshown (hback hv)), fun htst hc => ?_⟩
      obtain ⟨hust, heq⟩ := hidle htst
      obtain hc | ⟨hbusy, -⟩ := hc
      · exact heq.trans (hheld hust hc)
      · exact absurd hust hbusy

/-- Settles O56, by induction on the run. -/
theorem responseValidExactlyAfterCompletion : Obligations.ResponseValidExactlyAfterCompletion := by
  intro s t n hs hr h hst
  have ⟨hshown, hheld⟩ := rspV_of_run_from_reset hs hr h
  exact ⟨hshown, hheld hst⟩

/-! ### The response register is written and never read (R18, R27) -/

/-- `s` with other contents of the response register. -/
def withResponse (v so : Bool) (ix : LineIndex) (s : State) : State :=
  { s with regs := { s.regs with rspV := v, rspSome := so, rspIdx := ix } }

@[simp] theorem inputs_withResponse (v so : Bool) (ix : LineIndex) (s : State) :
    inputs (withResponse v so ix s) = inputs s := rfl

theorem countDown_withResponse (v so : Bool) (ix : LineIndex) (s : State) :
    countDown (withResponse v so ix s) = withResponse v so ix (countDown s) := by
  by_cases h : s.loaded = false ∧ s.regs.msCnt ≠ 0#32
  · rw [countDown_nonzero h.1 h.2]
    exact countDown_nonzero (s := withResponse v so ix s) h.1 h.2
  · rw [show countDown s = s from if_neg h]
    exact if_neg h

theorem tickIf_withResponse (b v so : Bool) (ix : LineIndex) (s : State) :
    tickIf b (withResponse v so ix s) = withResponse v so ix (tickIf b s) := by
  cases b
  · rfl
  · exact countDown_withResponse v so ix s

/-- With another response the same row of R103 applies, and it gives the same but for the response. -/
theorem ControlMove.exists_withResponse {s t : State} (h : ControlMove s t) (v so : Bool) (ix : LineIndex) :
    ∃ v' so' ix', ControlMove (withResponse v so ix s) (withResponse v' so' ix' t) := by
  cases h with
  | idles hst hcmd => exact ⟨v, so, ix, .idles hst hcmd⟩
  | acceptsRdbtn hst hcmd ho => exact ⟨_, _, _, .acceptsRdbtn hst hcmd ho⟩
  | acceptsSleep d hst hcmd ho => exact ⟨_, _, _, .acceptsSleep d hst hcmd ho⟩
  | scansNone hst hv => exact ⟨_, _, _, .scansNone hst hv⟩
  | scansCandidate c hst hv => exact ⟨v, so, ix, .scansCandidate c hst hv⟩
  | waits hst hms => exact ⟨v, so, ix, .waits hst hms⟩
  | settles hst hms => exact ⟨v, so, ix, .settles hst hms⟩
  | discards hst hc hl => exact ⟨_, _, _, .discards hst hc hl⟩
  | confirms hst hc hl => exact ⟨v, so, ix, .confirms hst hc hl⟩
  | reports hst hc hl => exact ⟨_, _, _, .reports hst hc hl⟩
  | polls hst hc hl => exact ⟨v, so, ix, .polls hst hc hl⟩
  | rereads hst hms => exact ⟨v, so, ix, .rereads hst hms⟩
  | wakes hst hms => exact ⟨_, _, _, .wakes hst hms⟩

theorem step_withResponse {s t : State} (h : step s = .next t) (v so : Bool) (ix : LineIndex) :
    ∃ v' so' ix', step (withResponse v so ix s) = .next (withResponse v' so' ix' t) := by
  obtain ⟨hr, rfl⟩ | ⟨hr, u, hu, rfl⟩ := step_eq_next_iff.1 h
  · exact ⟨false, false, 0#2, step_of_rst hr⟩
  · obtain ⟨v', so', ix', hu'⟩ := hu.exists_withResponse v so ix
    refine ⟨v', so', ix', step_eq_next_iff.2 (.inr ⟨hr, _, hu', ?_⟩)⟩
    rw [inputs_withResponse, tickIf_withResponse]
    rfl

/-- Settles O36. -/
theorem responseRegisterIsNeverRead : Obligations.ResponseRegisterIsNeverRead := by
  intro s t v so ix h
  obtain ⟨v', so', ix', h'⟩ := step_withResponse h v so ix
  exact ⟨_, h', rfl⟩

/-! ### Between calls only the response is remembered (R27) -/

/-- Under the invariants two blocks in IDLE differ at most in the response they hold. -/
theorem clearResponse_beginStep_eq_of_idle {s u : State} (hs : Invariant s) (hu : Invariant u)
    (hcfg : s.cfg = u.cfg) (hscript : s.script = u.script) (hnow : s.now = u.now)
    (hsi : s.regs.st = .idle) (hui : u.regs.st = .idle) :
    clearResponse (beginStep s) = clearResponse (beginStep u) := by
  have rest : ∀ w : State, Invariant w → w.regs.st = .idle →
      w.regs.candV = false ∧ w.regs.cand = 0#2 ∧ w.regs.msCnt = 0#32 := by
    rintro w ⟨hv, -, hc, hms, -⟩ hi
    have hv' : w.regs.candV = false := by simpa [hi, holdsCandidate] using hv
    exact ⟨hv', hc hv', msCnt_eq_zero_of_counterBound hms (by rw [hi]; rfl)⟩
  obtain ⟨hsv, hsc, hsm⟩ := rest s hs hsi
  obtain ⟨huv, huc, hum⟩ := rest u hu hui
  exact state_ext (regs_ext (hsi.trans hui.symm) (hsv.trans huv.symm) (hsc.trans huc.symm)
    (hsm.trans hum.symm) rfl rfl rfl) hcfg hscript hnow rfl

/-- An accepted command sees the response register cleared. -/
theorem exec_idle_eq_of_clearResponse_eq {s u : State} (h : clearResponse s = clearResponse u)
    (hcmd : (inputs s).cmdValid = true) (hsi : s.regs.st = .idle) (hui : u.regs.st = .idle) :
    exec .idle s = exec .idle u := by
  have hin : inputs s = inputs u := (congrArg inputs h :)
  have ho : offered s = offered u := (congrArg offered h :)
  rw [exec_idle_of_command hcmd, exec_idle_of_command (hin ▸ hcmd), ← ho]
  cases offered s with
  | rdbtn => exact ((exec_rdbtn_of_idle hsi).trans (h ▸ rfl)).trans (exec_rdbtn_of_idle hui).symm
  | sleep d => exact ((exec_sleep_of_idle d hsi).trans (h ▸ rfl)).trans (exec_sleep_of_idle d hui).symm

/-- Settles O37: the accepting step, or a reset in its place, already makes the two blocks equal. -/
theorem callsStartFresh : Obligations.CallsStartFresh := by
  intro s u hs hu hcfg hscript hnow hsi hui hcmd n
  suffices h : step s = step u by rw [run_succ, run_succ, h]
  have heq := clearResponse_beginStep_eq_of_idle hs hu hcfg hscript hnow hsi hui
  have hin : inputs s = inputs u := inputs_congr hscript hnow
  cases hr : (inputs s).rst with
  | true =>
    rw [step_of_rst hr, step_of_rst (hin ▸ hr)]
    exact congrArg Host.Outcome.next (congrArg (fun w => endStep (resetRegs w)) heq :)
  | false =>
    rw [step_of_not_rst hr, step_of_not_rst (hin ▸ hr), hsi, hui, hin]
    exact congrArg (andThen · _) (exec_idle_eq_of_clearResponse_eq heq hcmd hsi hui)

end Sys2Proof.Machine

/-! ### The reachable values of `(st, cand_v, cand)` (R25) -/

namespace Sys2Proof.Machine

/-- The values that the invariants allow: no candidate in three states, each line as the candidate in four. -/
def controlValues (n : LineCount) : List (CtrlState × Bool × LineIndex) :=
  [(.idle, false, 0#2), (.scan, false, 0#2), (.hsleep, false, 0#2)] ++
    (lineIndices n).flatMap fun c =>
      [(.settle, true, c), (.check, true, c), (.relRead, true, c), (.relWait, true, c)]

theorem controlValues_nodup (n : LineCount) : (controlValues n).Nodup := by
  cases n <;> decide

theorem controlValues_length (n : LineCount) : (controlValues n).length = 3 + 4 * n.toNat := by
  cases n <;> rfl

theorem mem_controlValues_iff (n : LineCount) (k : CtrlState) (v : Bool) (c : LineIndex) :
    (k, v, c) ∈ controlValues n ↔
      if holdsCandidate k then v = true ∧ c.toNat < n.toNat else v = false ∧ c = 0#2 := by
  cases k <;> simp [controlValues, holdsCandidate, mem_lineIndices, and_comm]

theorem Invariant.mem_controlValues {s : State} (h : Invariant s) :
    (s.regs.st, s.regs.candV, s.regs.cand) ∈ controlValues s.cfg.lines := by
  obtain ⟨hv, hc, hc0, -⟩ := h
  rw [mem_controlValues_iff]
  split
  next hk => exact ⟨hv.trans hk, hc⟩
  next hk =>
    have hv' := hv.trans (Bool.eq_false_iff.2 hk)
    exact ⟨hv', hc0 hv'⟩

/-- A block between two steps, with its registers and the coming input records. -/
def stateAt (p : Params) (r : Regs) (is : List Inputs) (now : Nat) : State where
  regs := r
  cfg := p
  script := is
  now := now
  loaded := false

/-- Some input record takes the registers `r` to `r'` in one step. -/
def RegsStep (p : Params) (r r' : Regs) : Prop :=
  ∃ i, ∀ is now, step (stateAt p r (i :: is) now) = .next (stateAt p r' is (now + 1))

/-- What single steps reach one after another, one run reaches on the script of their records. -/
theorem exists_run_of_regsSteps {p : Params} {r r' : Regs} (h : Relation.ReflTransGen (RegsStep p) r r') :
    ∃ n is, ∀ now, ∃ t, run n (stateAt p r is now) = .next t ∧ t.regs = r' := by
  induction h using Relation.ReflTransGen.head_induction_on with
  | refl => exact ⟨0, [], fun now => ⟨_, rfl, rfl⟩⟩
  | head hstep _ ih =>
    obtain ⟨i, hi⟩ := hstep
    obtain ⟨n, is, hrun⟩ := ih
    exact ⟨n + 1, i :: is, fun now => by rw [run_succ_of_step (hi is now)]; exact hrun (now + 1)⟩

/-- The registers of a call in flight: a control state, with or without a candidate, and a counter. -/
def inFlight (k : CtrlState) (v : Bool) (c : LineIndex) (d : Word) : Regs :=
  { Regs.reset with st := k, candV := v, cand := c, msCnt := d }

section
variable (p : Params) (c : LineIndex)

theorem regsStep_rdbtn : RegsStep p Regs.reset (inFlight .scan false 0#2 0#32) :=
  ⟨scriptLine (some (encodeCmd .rdbtn)) false 15#4, fun _ _ =>
    step_eq_next_iff.2 (.inr ⟨rfl, _, .acceptsRdbtn rfl rfl
      (by decide : decodeCmd (encodeCmd .rdbtn) = .rdbtn), rfl⟩)⟩

theorem regsStep_sleep : RegsStep p Regs.reset (inFlight .hsleep false 0#2 0#32) :=
  ⟨scriptLine (some (encodeCmd (.sleep 0#32))) false 15#4, fun _ _ =>
    step_eq_next_iff.2 (.inr ⟨rfl, _, .acceptsSleep 0#32 rfl rfl
      (by decide : decodeCmd (encodeCmd (.sleep 0#32)) = .sleep 0#32), rfl⟩)⟩

/-- A scan with line `c` alone pressed finds it. -/
theorem isFirstLow_stimPress {n : LineCount} {c : LineIndex} (h : c.toNat < n.toNat) :
    IsFirstLow n (stimPress c 15#4) c := by
  refine ⟨h, ?_⟩
  clear h
  revert c
  decide

theorem regsStep_scan (h : c.toNat < p.lines.toNat) :
    RegsStep p (inFlight .scan false 0#2 0#32) (inFlight .settle true c p.settleMs) :=
  ⟨scriptLine none false (stimPress c 15#4), fun _ _ =>
    step_eq_next_iff.2 (.inr ⟨rfl, _, .scansCandidate c rfl (isFirstLow_stimPress h), rfl⟩)⟩

theorem regsStep_settle_tick {d : Word} (h : d ≠ 0#32) :
    RegsStep p (inFlight .settle true c d) (inFlight .settle true c (d - 1#32)) :=
  ⟨scriptLine none true 15#4, fun _ _ =>
    step_eq_next_iff.2 (.inr ⟨rfl, _, .waits rfl h, by
      rw [show (inputs _).tick = true from rfl, tickIf_true, countDown_nonzero rfl h]; rfl⟩)⟩

/-- The settle interval ends, whatever its length. -/
theorem regsSteps_settle (d : Word) :
    Relation.ReflTransGen (RegsStep p) (inFlight .settle true c d) (inFlight .settle true c 0#32) := by
  induction hn : d.toNat generalizing d with
  | zero => rw [BitVec.eq_of_toNat_eq (y := 0#32) hn]
  | succ n ih =>
    have hd : d ≠ 0#32 := by rintro rfl; exact absurd hn.symm (Nat.succ_ne_zero n)
    exact .head (regsStep_settle_tick p c hd) (ih _ (by rw [toNat_decrement hd, hn]; rfl))

theorem regsStep_settle_done : RegsStep p (inFlight .settle true c 0#32) (inFlight .check true c 0#32) :=
  ⟨scriptLine none false 15#4, fun _ _ => step_eq_next_iff.2 (.inr ⟨rfl, _, .settles rfl rfl, rfl⟩)⟩

theorem regsStep_check (h : c.toNat < p.lines.toNat) :
    RegsStep p (inFlight .check true c 0#32) (inFlight .relRead true c 0#32) :=
  ⟨scriptLine none false (stimPress c 15#4), fun _ _ =>
    step_eq_next_iff.2 (.inr ⟨rfl, _, .confirms rfl h (isFirstLow_stimPress h).2.1, rfl⟩)⟩

theorem regsStep_relRead (h : c.toNat < p.lines.toNat) :
    RegsStep p (inFlight .relRead true c 0#32) (inFlight .relWait true c p.pollMs) :=
  ⟨scriptLine none false (stimPress c 15#4), fun _ _ =>
    step_eq_next_iff.2 (.inr ⟨rfl, _, .polls rfl h (isFirstLow_stimPress h).2.1, rfl⟩)⟩

/-- Each of the values is reached: the calls `SLEEP 0` and `RDBTN` with a line that stays low pass through them. -/
theorem exists_regsSteps_of_mem_controlValues {k : CtrlState} {v : Bool}
    (h : (k, v, c) ∈ controlValues p.lines) :
    ∃ r, Relation.ReflTransGen (RegsStep p) Regs.reset r ∧ r.st = k ∧ r.candV = v ∧ r.cand = c := by
  rw [mem_controlValues_iff] at h
  have toScan := Relation.ReflTransGen.single (regsStep_rdbtn p)
  cases hk : holdsCandidate k with
  | false =>
    simp only [hk, Bool.false_eq_true, if_false] at h
    obtain ⟨rfl, rfl⟩ := h
    cases k with
    | idle => exact ⟨_, .refl, rfl, rfl, rfl⟩
    | scan => exact ⟨_, toScan, rfl, rfl, rfl⟩
    | hsleep => exact ⟨_, .single (regsStep_sleep p), rfl, rfl, rfl⟩
    | settle | check | relRead | relWait => cases hk
  | true =>
    simp only [hk, if_true] at h
    obtain ⟨rfl, hc⟩ := h
    have toSettle := (toScan.tail (regsStep_scan p c hc)).trans (regsSteps_settle p c p.settleMs)
    have toCheck := toSettle.tail (regsStep_settle_done p c)
    have toRelRead := toCheck.tail (regsStep_check p c hc)
    cases k with
    | settle => exact ⟨_, toSettle, rfl, rfl, rfl⟩
    | check => exact ⟨_, toCheck, rfl, rfl, rfl⟩
    | relRead => exact ⟨_, toRelRead, rfl, rfl, rfl⟩
    | relWait => exact ⟨_, toRelRead.tail (regsStep_relRead p c hc), rfl, rfl, rfl⟩
    | idle | scan | hsleep => cases hk

end

/-- Settles O32: the invariants allow no other values, and two kinds of call pass through all of these. -/
theorem reachableControlValuesAreCounted : Obligations.ReachableControlValuesAreCounted := by
  intro p
  refine ⟨controlValues p.lines, controlValues_nodup _, controlValues_length _, fun k v c => ⟨fun h => ?_, ?_⟩⟩
  · obtain ⟨r, hr, hst, hv, hc⟩ := exists_regsSteps_of_mem_controlValues p c h
    obtain ⟨n, is, hrun⟩ := exists_run_of_regsSteps hr
    obtain ⟨t, ht, rfl⟩ := hrun 0
    exact ⟨_, n, t, rfl, rfl, ht, hst, hv, hc⟩
  · rintro ⟨s, n, t, hs, rfl, hrun, rfl, rfl, rfl⟩
    rw [← (run_environment hrun).1]
    exact (run_invariant hrun (invariantAfterReset.2 s hs)).mem_controlValues

end Sys2Proof.Machine

/-! ### The input-line space: no operation writes it, and only a read outside it stops (R34, R35, R38, R44) -/

namespace Sys2Proof.Machine

theorem KeepsEnvironment.lineRead_eq {s t : State} (h : KeepsEnvironment s t) (c : LineIndex) :
    lineRead t c = lineRead s c := by
  have hin : inputs t = inputs s := h.inputsAt_eq 0
  simp only [lineRead, h.cfg, hin]

/-- Settles O27: a line reads what the parameters and the stimulus say, and every operation keeps both. -/
theorem environmentFrame : Obligations.EnvironmentFrame := by
  intro i s t h
  have hkeeps := exec_keepsEnvironment h
  exact ⟨hkeeps.cfg, hkeeps.lineRead_eq, hkeeps.inputsAt_eq⟩

theorem exec_check_eq_onLevel (s : State) :
    exec .check s = onLevel s.regs.cand (complete none) (setSt .relRead) s := rfl

theorem exec_relRead_eq_onLevel (s : State) :
    exec .relRead s = onLevel s.regs.cand (complete (some s.regs.cand))
      (fun t => setSt .relWait (tbLoad (pollDuration t) t)) s := rfl

theorem exists_onLevel_eq_next {i : LineIndex} (high low : State → State) {s : State}
    (h : i.toNat < s.cfg.lines.toNat) : ∃ t, onLevel i high low s = .next t := by
  cases hl : (inputs s).line.getLsbD i.toNat with
  | true => exact ⟨_, onLevel_high high low h hl⟩
  | false => exact ⟨_, onLevel_low high low h hl⟩

theorem exists_exec_idle_eq_next (s : State) : ∃ t, exec .idle s = .next t := by
  cases hcmd : (inputs s).cmdValid with
  | false => exact ⟨s, exec_idle_of_no_command hcmd⟩
  | true =>
    rw [exec_idle_of_command hcmd]
    cases offered s with
    | rdbtn | sleep d => exact ⟨_, rfl⟩

theorem exists_exec_scan_eq_next (s : State) : ∃ t, exec .scan s = .next t := by
  obtain hv | ⟨c, hv⟩ := allHigh_or_exists_isFirstLow s.cfg.lines (inputs s).line
  · exact ⟨_, exec_scan_of_allHigh hv⟩
  · exact ⟨_, exec_scan_of_isFirstLow hv⟩

/-- Settles O23: CHECK and REL_READ are line reads of the candidate; only IDLE and SCAN among the other operations
choose between outcomes, and each of their choices is a next state. -/
theorem onlyOutOfRangeLineReadStops : Obligations.OnlyOutOfRangeLineReadStops := by
  intro s
  rw [exec_check_eq_onLevel, exec_relRead_eq_onLevel]
  refine ⟨fun hout => ⟨onLevel_out_of_range _ _ hout, onLevel_out_of_range _ _ hout⟩,
    fun hin => ⟨exists_onLevel_eq_next _ _ hin, exists_onLevel_eq_next _ _ hin⟩, fun i hcheck hrelRead => ?_⟩
  cases i with
  | idle => exact exists_exec_idle_eq_next s
  | scan => exact exists_exec_scan_eq_next s
  | check => exact absurd rfl hcheck
  | relRead => exact absurd rfl hrelRead
  | rdbtn | sleep | tick | reset | settle | relWait | hsleep => exact ⟨_, rfl⟩

end Sys2Proof.Machine

/-! ### Commands and coded words: what the decoder reads from the words the encoder writes (R49, R52, R54, R56) -/

namespace Sys2Proof.Machine

theorem decodeCmd_of_opBit_clear {w : CmdWord} (h : w.getLsbD 32 = false) : decodeCmd w = .rdbtn := by
  simp only [decodeCmd, h, Bool.false_eq_true, if_false]

theorem decodeCmd_of_opBit_set {w : CmdWord} (h : w.getLsbD 32 = true) :
    decodeCmd w = .sleep (w.extractLsb' 0 32) := by
  simp only [decodeCmd, h, if_true]

@[simp] theorem decodeCmd_encodeCmd (c : Command) : decodeCmd (encodeCmd c) = c := by
  cases c with
  | rdbtn => rfl
  | sleep d =>
    have hop : (1#1 ++ d).getLsbD 32 = true := by rw [BitVec.getLsbD_append]; rfl
    have harg : (1#1 ++ d).extractLsb' 0 32 = d := BitVec.extractLsb'_append_eq_right
    exact (decodeCmd_of_opBit_set hop).trans (congrArg _ harg)

theorem decode_cmd (w : CmdWord) : decode (.cmd w) = .instr (decodeCmd w).instr := rfl

theorem encode_command (c : Command) : encode c.instr = .cmd (encodeCmd c) := by
  cases c <;> rfl

theorem encode_ctrlState (k : CtrlState) : encode k.instr = .st k.code := by
  cases k <;> rfl

theorem decode_encode_command (c : Command) : decode (encode c.instr) = .instr c.instr := by
  rw [encode_command, decode_cmd, decodeCmd_encodeCmd]

theorem decode_encode_ctrlState (k : CtrlState) : decode (encode k.instr) = .instr k.instr := by
  rw [encode_ctrlState, decode_st_code]

@[simp] theorem decode_encode (i : Instr) : decode (encode i) = .instr i := by
  cases i with
  | rdbtn => exact decode_encode_command .rdbtn
  | sleep d => exact decode_encode_command (.sleep d)
  | tick | reset => rfl
  | idle => exact decode_encode_ctrlState .idle
  | scan => exact decode_encode_ctrlState .scan
  | settle => exact decode_encode_ctrlState .settle
  | check => exact decode_encode_ctrlState .check
  | relRead => exact decode_encode_ctrlState .relRead
  | relWait => exact decode_encode_ctrlState .relWait
  | hsleep => exact decode_encode_ctrlState .hsleep

/-- Settles O2, carrier by carrier: a command is its operation bit and its duration, an event its bit, a control
state its code. -/
theorem decodeOfEncodeIsIdentity : Obligations.DecodeOfEncodeIsIdentity :=
  fun i _ => decode_encode i

theorem decode_cmd_of_opBit_clear {w : CmdWord} (h : w.getLsbD 32 = false) : decode (.cmd w) = .instr .rdbtn := by
  rw [decode_cmd, decodeCmd_of_opBit_clear h]; rfl

theorem decode_cmd_of_opBit_set {w : CmdWord} (h : w.getLsbD 32 = true) :
    decode (.cmd w) = .instr (.sleep (w.setWidth 32)) := by
  rw [decode_cmd, decodeCmd_of_opBit_set h, BitVec.setWidth_eq_extractLsb' (by decide)]; rfl

/-- The mask of R49 keeps `cmd[32]` alone. -/
theorem and_opMask (w : CmdWord) :
    w &&& 0x100000000#33 = if w.getLsbD 32 then 0x100000000#33 else 0x000000000#33 :=
  BitVec.and_twoPow w 32

/-- Settles O3: a masked word is one of the two matches, by the one bit that the mask keeps. -/
theorem everyCommandWordIsLegal : Obligations.EveryCommandWordIsLegal := by
  intro w
  rw [and_opMask]
  cases h : w.getLsbD 32 with
  | false => exact ⟨fun _ => decode_cmd_of_opBit_clear h, fun hm => absurd hm (by decide), .inl rfl⟩
  | true => exact ⟨fun hm => absurd hm (by decide), fun _ => decode_cmd_of_opBit_set h, .inr rfl⟩

/-- A `SLEEP` word is encoded back to itself, whereas `encode` writes the argument 0 for `RDBTN`. -/
theorem encodeCmd_decodeCmd {w : CmdWord} (h : w.getLsbD 32 = true) : encodeCmd (decodeCmd w) = w := by
  have hop : w.extractLsb' 32 1 = 1#1 := by rwa [BitVec.getLsbD_eq_extractLsb', beq_iff_eq] at h
  calc encodeCmd (decodeCmd w)
    _ = 1#1 ++ w.extractLsb' 0 32 := by rw [decodeCmd_of_opBit_set h]; rfl
    _ = w.extractLsb' 32 1 ++ w.extractLsb' 0 32 := by rw [hop]
    _ = w := BitVec.extractLsb'_append_extractLsb'

theorem ctrlOfCode_eq_some_iff (c : StCode) (k : CtrlState) : ctrlOfCode c = some k ↔ k.code = c := by
  cases k <;> revert c <;> decide

theorem ctrlOfCode_eq_none_iff (c : StCode) : ctrlOfCode c = none ↔ c = 7#3 := by
  revert c; decide

theorem eq_code_or_reserved (c : StCode) : (∃ k : CtrlState, c = k.code) ∨ c = 7#3 := by
  cases h : ctrlOfCode c with
  | none => exact .inr ((ctrlOfCode_eq_none_iff c).1 h)
  | some k => exact .inl ⟨k, ((ctrlOfCode_eq_some_iff c k).1 h).symm⟩

theorem code_ne_reserved (k : CtrlState) : k.code ≠ 7#3 := by
  cases k <;> decide

/-- Settles O4, carrier by carrier: every command word carries an operation, of an event port the bit 1 does, and of
the control-state codes all but the reserved one, which are the codes of the seven control states. -/
theorem onlyOperationWordsDecode : Obligations.OnlyOperationWordsDecode := by
  intro c
  cases c with
  | cmd w =>
    refine ⟨fun _ => ⟨(decodeCmd w).instr, decode_cmd w, ?_⟩, nofun⟩
    cases h : w.getLsbD 32 with
    | false => exact .inr ⟨by rw [decodeCmd_of_opBit_clear h]; rfl, w, rfl, h⟩
    | true => exact .inl (by rw [encode_command, encodeCmd_decodeCmd h])
  | tick b =>
    obtain rfl | rfl := b.eq_zero_or_eq_one
    · exact ⟨nofun, fun _ => .inl ⟨.inl rfl, rfl⟩⟩
    · exact ⟨fun _ => ⟨.tick, rfl, .inl rfl⟩, nofun⟩
  | rst b =>
    obtain rfl | rfl := b.eq_zero_or_eq_one
    · exact ⟨nofun, fun _ => .inl ⟨.inr rfl, rfl⟩⟩
    · exact ⟨fun _ => ⟨.reset, rfl, .inl rfl⟩, nofun⟩
  | st c =>
    obtain ⟨k, rfl⟩ | rfl := eq_code_or_reserved c
    · refine ⟨fun _ => ⟨k.instr, decode_st_code k, .inl (encode_ctrlState k)⟩, fun h => ?_⟩
      exact absurd (by simpa [Code.wf] using h) (code_ne_reserved k)
    · exact ⟨nofun, fun _ => .inr ⟨rfl, rfl⟩⟩

/-- Settles O1: each word is one the encoder writes, but for the ignored argument of `RDBTN` and the reserved code. -/
theorem specWordsDecodeAsWritten : Obligations.SpecWordsDecodeAsWritten :=
  ⟨decode_encode .rdbtn, decode_cmd_of_opBit_clear (by decide), decode_encode (.sleep 0#32),
    decode_encode (.sleep 60000#32), decode_encode (.sleep 4294967295#32), decode_encode .tick,
    decode_encode .reset, decode_encode .idle, decode_encode .scan, decode_encode .settle, decode_encode .check,
    decode_encode .relRead, decode_encode .relWait, decode_encode .hsleep, rfl⟩

end Sys2Proof.Machine

/-! ### Which operation a step and IDLE perform (R50, R80, R96, R97) -/

namespace Sys2Proof.Machine

/-- Settles O6: a reset step is RESET alone, and `st` always holds the code of the operation that another step
performs before its tick. -/
theorem stepRunsTheDecodedOperation : Obligations.StepRunsTheDecodedOperation := by
  intro s
  refine ⟨fun hr => step_of_rst hr, fun hr i hi => ?_⟩
  obtain rfl : s.regs.st.instr = i := by simpa using hi
  rw [step_of_not_rst hr, andThen_assoc]
  cases (inputs s).tick <;> rfl

/-- Settles O7: the command that IDLE performs is read by the same decoder. -/
theorem idleRunsTheDecodedCommand : Obligations.IdleRunsTheDecodedCommand := by
  intro s i hcmd hi
  obtain rfl : (offered s).instr = i := by simpa [decode_cmd, offered] using hi
  exact exec_idle_of_command hcmd

/-- Settles O14: both commands are accepted in IDLE only. -/
theorem commandsAreDroppedWhileBusy : Obligations.CommandsAreDroppedWhileBusy :=
  fun _ hbusy => ⟨congrArg _ (acceptCommand_busy _ hbusy), fun _ => congrArg _ (acceptCommand_busy _ hbusy)⟩

end Sys2Proof.Machine

/-! ### The response word (R53, R56, R92) -/

namespace Sys2Proof.Machine

/-- The results a block with `n` lines can give: `None`, and `Some` of a line that it has. -/
def IsResult (n : LineCount) (r : Option LineIndex) : Prop :=
  ∀ i, r = some i → i.toNat < n.toNat

theorem isResult_none (n : LineCount) : IsResult n none := nofun

theorem isResult_some_iff (n : LineCount) (i : LineIndex) : IsResult n (some i) ↔ i.toNat < n.toNat := by
  simp [IsResult]

theorem encodeRsp_some_toNat (i : LineIndex) : (encodeRsp (some i)).toNat = 4 + i.toNat := by
  revert i; decide

/-- `rsp[2]` says whether the result is `Some`. -/
theorem encodeRsp_getLsbD (r : Option LineIndex) : (encodeRsp r).getLsbD 2 = r.isSome := by
  cases r with
  | none => rfl
  | some i => revert i; decide

/-- `rsp[1:0]` is the index of a `Some` result. -/
theorem encodeRsp_some_extract (i : LineIndex) : (encodeRsp (some i)).extractLsb' 0 2 = i :=
  BitVec.extractLsb'_append_eq_right

theorem wf_encodeRsp_iff (n : LineCount) (r : Option LineIndex) : RspWord.wf n (encodeRsp r) = true ↔ IsResult n r := by
  cases r with
  | none => exact iff_of_true rfl (isResult_none n)
  | some i => simp [RspWord.wf, encodeRsp_getLsbD, encodeRsp_some_extract, isResult_some_iff]

/-- Every legal word is the word of some result, by its bit 2. -/
theorem exists_encodeRsp_of_wf {n : LineCount} {w : RspWord} (h : RspWord.wf n w = true) : ∃ r, w = encodeRsp r := by
  cases hsome : w.getLsbD 2 with
  | false =>
    simp only [RspWord.wf, hsome, Bool.false_eq_true, if_false, beq_iff_eq] at h
    exact ⟨none, h⟩
  | true => exact ⟨some (w.extractLsb' 0 2), by clear h; revert w; decide⟩

theorem decodeRsp_encodeRsp {n : LineCount} {r : Option LineIndex} (h : IsResult n r) :
    decodeRsp n (encodeRsp r) = .result r := by
  rw [decodeRsp, if_pos ((wf_encodeRsp_iff n r).2 h), encodeRsp_getLsbD]
  cases r with
  | none => rfl
  | some i => simp [encodeRsp_some_extract]

theorem decodeRsp_of_ne_encodeRsp {n : LineCount} {w : RspWord} (h : ∀ r, IsResult n r → w ≠ encodeRsp r) :
    decodeRsp n w = .rejected .notAResponse := by
  refine if_neg fun hwf => ?_
  obtain ⟨r, rfl⟩ := exists_encodeRsp_of_wf hwf
  exact h r ((wf_encodeRsp_iff n r).1 hwf) rfl

theorem rsp_complete (r : Option LineIndex) (s : State) : (outputs (complete r s)).rsp = encodeRsp r := by
  cases r <;> simp [outputs, encodeRsp]

/-- Under the invariants the response register holds a result of the block, `None` while it is not valid. -/
theorem Invariant.exists_rsp_eq_encodeRsp {s : State} (hs : Invariant s) :
    ∃ r, IsResult s.cfg.lines r ∧ (outputs s).rsp = encodeRsp r ∧ ((outputs s).rspValid = false → r = none) := by
  obtain ⟨-, -, -, -, -, hsome, hnone⟩ := hs
  cases h : s.regs.rspSome with
  | false => exact ⟨none, isResult_none _, by simp [outputs, h, hnone h, encodeRsp], fun _ => rfl⟩
  | true =>
    obtain ⟨hv, hi⟩ := hsome h
    exact ⟨some s.regs.rspIdx, (isResult_some_iff _ _).2 hi, by simp [outputs, h, encodeRsp],
      fun hv' => absurd (hv.symm.trans hv') (by decide)⟩

theorem exec_hsleep_of_zero {s : State} (h : s.regs.msCnt = 0#32) : exec .hsleep s = .next (complete none s) :=
  congrArg _ (waitZero_zero _ h)

/-- Settles O5: the legal words are the words of the block's results, and the response register holds one of them. -/
theorem responseWordCarriesResult : Obligations.ResponseWordCarriesResult := by
  refine ⟨rfl, encodeRsp_some_toNat, fun n r => decodeRsp_encodeRsp, fun n w => decodeRsp_of_ne_encodeRsp,
    fun s r => rsp_complete r s, fun s hms => ⟨_, exec_hsleep_of_zero hms, rfl, rsp_complete none s⟩, fun s hs => ?_⟩
  obtain ⟨r, hr, hrsp, hvalid⟩ := hs.exists_rsp_eq_encodeRsp
  rw [hrsp]
  exact ⟨(wf_encodeRsp_iff _ r).2 hr, fun hv => by rw [hvalid hv]; rfl⟩

end Sys2Proof.Machine

/-! ### The Timebase: the counter over one step (R68, R69, R70, R73, R97) -/

namespace Sys2Proof.Machine

/-- A decrement of a nonzero counter takes exactly one from it (R73). -/
theorem toNat_decrement_add_one {w : Word} (h : w ≠ 0#32) : (w - 1#32).toNat + 1 = w.toNat := by
  have hpos : 0 < w.toNat := Nat.pos_of_ne_zero (BitVec.toNat_ne.1 h)
  rw [toNat_decrement h, Nat.sub_add_cancel hpos]

/-- Settles O11. -/
theorem tickCountsDownWhenNonzero : Obligations.TickCountsDownWhenNonzero := fun _ =>
  ⟨fun hl hms => ⟨congrArg _ (countDown_nonzero hl hms), toNat_decrement_add_one hms⟩,
    fun hms => congrArg _ (countDown_zero hms), fun hl => congrArg _ (countDown_loaded_eq hl)⟩

/-- Settles O12. -/
theorem sleepIsAcceptedInIdle : Obligations.SleepIsAcceptedInIdle :=
  fun d _ hst => exec_sleep_of_idle d hst

/-- Settles O22. -/
theorem hsleepWaitsThenCompletes : Obligations.HsleepWaitsThenCompletes :=
  fun _ => ⟨fun hms => congrArg _ (waitZero_nonzero _ hms), exec_hsleep_of_zero⟩

theorem tickIf_of_loaded (b : Bool) {s : State} (h : s.loaded = true) : tickIf b s = s := by
  cases b with
  | false => rfl
  | true => exact countDown_loaded_eq h

theorem tickIf_of_zero (b : Bool) {s : State} (h : s.regs.msCnt = 0#32) : tickIf b s = s := by
  cases b with
  | false => rfl
  | true => exact countDown_zero h

theorem tickIf_of_not_loaded (b : Bool) {s : State} (h : s.loaded = false) :
    tickIf b s = { s with regs := { s.regs with
      msCnt := if b = true ∧ s.regs.msCnt ≠ 0#32 then s.regs.msCnt - 1#32 else s.regs.msCnt } } := by
  by_cases hdec : b = true ∧ s.regs.msCnt ≠ 0#32
  · rw [if_pos hdec, hdec.1]
    exact countDown_nonzero h hdec.2
  · rw [if_neg hdec]
    cases b with
    | false => rfl
    | true => exact countDown_zero (by simpa using hdec)

theorem tickedCounter_toNat (s : State) :
    (tickedCounter s).toNat = s.regs.msCnt.toNat - if (inputs s).tick then 1 else 0 := by
  unfold tickedCounter
  by_cases hdec : (inputs s).tick = true ∧ s.regs.msCnt ≠ 0#32
  · rw [if_pos hdec, if_pos hdec.1, toNat_decrement hdec.2]
  · rw [if_neg hdec]
    cases ht : (inputs s).tick with
    | false => rfl
    | true => rw [show s.regs.msCnt = 0#32 by simpa [ht] using hdec]; rfl

theorem step_of_controlMove {s u : State} (hr : (inputs s).rst = false) (h : ControlMove (beginStep s) u) :
    step s = .next (endStep (tickIf (inputs s).tick u)) :=
  step_eq_next_iff.2 (.inr ⟨hr, u, h, rfl⟩)

/-- The tick of a step that loads the counter is lost (R69). -/
theorem step_of_controlMove_loaded {s u : State} (hr : (inputs s).rst = false) (h : ControlMove (beginStep s) u)
    (hl : u.loaded = true) : step s = .next (endStep u) := by
  rw [step_of_controlMove hr h, tickIf_of_loaded _ hl]

theorem step_of_controlMove_zero {s u : State} (hr : (inputs s).rst = false) (h : ControlMove (beginStep s) u)
    (hms : u.regs.msCnt = 0#32) : step s = .next (endStep u) := by
  rw [step_of_controlMove hr h, tickIf_of_zero _ hms]

/-- In a wait state with a nonzero counter a step counts its tick and does nothing else (R70). -/
theorem step_of_waiting {s : State} (hst : isWait s.regs.st = true) (hms : s.regs.msCnt ≠ 0#32)
    (hr : (inputs s).rst = false) :
    step s = .next (endStep { s with regs := { s.regs with msCnt := tickedCounter s } }) := by
  rw [step_of_controlMove hr (.waits (s := beginStep s) hst hms), tickIf_of_not_loaded _ rfl]
  rfl

theorem offered_of_decode_sleep {s : State} {d : Word} (h : decode (.cmd (inputs s).cmd) = .instr (.sleep d)) :
    offered s = .sleep d := by
  replace h : Decoded.instr (offered s).instr = .instr (.sleep d) := h
  cases ho : offered s with rw [ho] at h
  | rdbtn => cases h
  | sleep e => cases h; rfl

/-- The step that accepts a SLEEP (R71, R80). -/
theorem step_of_sleep {s : State} {d : Word} (hst : s.regs.st = .idle) (hcmd : (inputs s).cmdValid = true)
    (hd : decode (.cmd (inputs s).cmd) = .instr (.sleep d)) (hr : (inputs s).rst = false) :
    step s = .next (endStep (setSt .hsleep (tbLoad d (clearResponse s)))) :=
  step_of_controlMove_loaded hr (.acceptsSleep (s := beginStep s) d hst hcmd (offered_of_decode_sleep hd)) rfl

/-- Settles O34: each of the three loads is the control operation of its step, and the tick finds it requested. -/
theorem loadBeatsTick : Obligations.LoadBeatsTick := by
  refine fun s hr _ => ⟨fun d hst hcmd hd => ?_, fun hst hlow => ?_, fun hst hc hl => ?_⟩
  · exact ⟨_, step_of_sleep hst hcmd hd hr, rfl, rfl⟩
  · obtain ⟨c, hv⟩ := (allHigh_or_exists_isFirstLow _ _).resolve_left hlow
    exact ⟨_, step_of_controlMove_loaded hr (.scansCandidate (s := beginStep s) c hst hv) rfl, rfl, rfl⟩
  · exact ⟨_, step_of_controlMove_loaded hr (.polls (s := beginStep s) hst hc hl) rfl, rfl, rfl⟩

/-! ### Which steps load the counter (R69) -/

theorem anyLow_of_isFirstLow {s : State} {c : LineIndex} (h : IsFirstLow s.cfg.lines (inputs s).line c) :
    anyLow s = true := by
  obtain ⟨hc, hl, -⟩ := h
  exact List.any_eq_true.2 ⟨c, (mem_lineIndices _ c).2 hc, (isLow_iff _ c).2 hl⟩

/-- A control operation requests a load where `loads` says so, and else leaves the counter to the tick. -/
theorem ControlMove.loads_or_keeps_counter {s t : State} (h : ControlMove s t) :
    loads s = true ∨ (t.regs.msCnt = s.regs.msCnt ∧ t.loaded = s.loaded) := by
  cases h with
  | acceptsSleep d hst hcmd ho => exact .inl (by simp [loads, hst, hcmd, ((offered_sleep_iff s d).1 ho).1])
  | scansCandidate c hst hv => exact .inl (by simp [loads, hst, anyLow_of_isFirstLow hv])
  | polls hst hc hl => exact .inl (by simp [loads, hst, candLevel, lineRead_of_lt hc, hl])
  | idles | acceptsRdbtn | scansNone | waits | settles | discards | confirms | reports | rereads | wakes =>
    exact .inr ⟨rfl, rfl⟩

theorem step_msCnt {s t : State} (h : step s = .next t) (hr : (inputs s).rst = false) (hl : loads s = false) :
    t.regs.msCnt = tickedCounter s := by
  obtain ⟨hr', -⟩ | ⟨-, u, hu, rfl⟩ := step_eq_next_iff.1 h
  · simp [hr] at hr'
  · obtain ⟨hms, hloaded⟩ := hu.loads_or_keeps_counter.resolve_left (ne_true_of_eq_false hl)
    rw [tickIf_of_not_loaded _ hloaded, endStep_regs, hms]
    rfl

/-- Settles O38. -/
theorem counterFallsByTicksAlone : Obligations.CounterFallsByTicksAlone := by
  intro s t h hr hl
  rw [step_msCnt h hr hl]
  refine ⟨(tickedCounter_toNat s).le.trans (Nat.sub_le _ _), fun hdec => ?_, fun hkeep => if_neg ?_⟩
  · rw [tickedCounter, if_pos hdec, toNat_decrement_add_one hdec.2]
  · rintro ⟨ht, hms⟩
    simp [ht, hms] at hkeep

/-- No wait state loads the counter. -/
theorem isWait_eq_false_of_loads {s : State} (h : loads s = true) : isWait s.regs.st = false := by
  cases hst : s.regs.st with
  | idle | scan | check | relRead => rfl
  | settle | relWait | hsleep => simp [loads, hst] at h

theorem Invariant.msCnt_eq_zero {s : State} (hs : Invariant s) (hst : isWait s.regs.st = false) :
    s.regs.msCnt = 0#32 := by
  obtain ⟨-, -, -, hms, -⟩ := hs
  exact msCnt_eq_zero_of_counterBound hms hst

/-- Settles O39: outside the waits the counter is 0, and a wait is left at 0 only. -/
theorem loadsAndCompletionsFindZero : Obligations.LoadsAndCompletionsFindZero := by
  intro s t hs h hr
  refine ⟨fun hl => hs.msCnt_eq_zero (isWait_eq_false_of_loads hl), fun hbusy hidle => ⟨?_, ?_⟩⟩
  · cases hwait : isWait s.regs.st with
    | false => exact hs.msCnt_eq_zero hwait
    | true =>
      by_contra hms
      cases (step_of_waiting hwait hms hr).symm.trans h
      exact hbusy hidle
  · exact (step_invariant h hs).msCnt_eq_zero (by rw [hidle]; rfl)

end Sys2Proof.Machine

/-! ### Whole waits, and the calls that are one wait (R71, R72, R74, R75, R138) -/

namespace Sys2Proof.Machine

theorem consumed_succ_of_step {s t : State} (h : step s = .next t) (n : Nat) :
    consumed (n + 1) s = (if countsTick s then 1 else 0) + consumed n t := by
  rw [consumed, h]

/-- The ticks of a run are those of its first `n` steps and that of the step after them. -/
theorem consumed_succ_of_run {n : Nat} {s u v : State} (hu : run n s = .next u) (huv : step u = .next v) :
    consumed (n + 1) s = consumed n s + if countsTick u then 1 else 0 := by
  induction n generalizing s with
  | zero =>
    cases hu
    rw [consumed_succ_of_step huv, Nat.add_comm]
    rfl
  | succ n ih =>
    obtain ⟨t, hst, htu⟩ := andThen_eq_next hu
    rw [consumed_succ_of_step hst, ih htu, consumed_succ_of_step hst, Nat.add_assoc]

theorem countsTick_of_not_wait {s : State} (h : isWait s.regs.st = false) : countsTick s = false := by
  simp [countsTick, h]

theorem countsTick_of_zero {s : State} (h : s.regs.msCnt = 0#32) : countsTick s = false := by
  simp [countsTick, h]

theorem countsTick_of_waiting {s : State} (hst : isWait s.regs.st = true) (hms : s.regs.msCnt ≠ 0#32)
    (hr : (inputs s).rst = false) : countsTick s = (inputs s).tick := by
  simp [countsTick, cntZero, hst, hms, hr]

theorem NoReset.of_le {s : State} {m n : Nat} (h : NoReset s n) (hmn : m ≤ n) : NoReset s m :=
  fun k hk => h k (hk.trans_le hmn)

theorem NoReset.of_step {s t : State} {n : Nat} (h : NoReset s (n + 1)) (hst : step s = .next t) : NoReset t n := by
  obtain ⟨-, -, -, -, hin⟩ := stepTakesOneInputRecord s t hst
  exact fun k hk => hin k ▸ h (k + 1) (Nat.succ_lt_succ hk)

theorem ticksIn_of_step {s t : State} (h : step s = .next t) (e n : Nat) : ticksIn t e n = ticksIn s (e + 1) n := by
  obtain ⟨-, -, -, -, hin⟩ := stepTakesOneInputRecord s t h
  induction n with
  | zero => rfl
  | succ n ih => rw [ticksIn_succ, ticksIn_succ, ih, hin, Nat.add_right_comm]

/-- The registers of `s` once its counter has counted `k` ticks (R68). -/
def regsAfterTicks (s : State) (k : Nat) : Regs :=
  { s.regs with msCnt := BitVec.ofNat 32 (s.regs.msCnt.toNat - k) }

theorem regsAfterTicks_zero (s : State) : regsAfterTicks s 0 = s.regs := by
  simp [regsAfterTicks]

theorem regsAfterTicks_msCnt_toNat (s : State) (k : Nat) :
    (regsAfterTicks s k).msCnt.toNat = s.regs.msCnt.toNat - k :=
  Nat.mod_eq_of_lt ((Nat.sub_le _ _).trans_lt s.regs.msCnt.isLt)

theorem regsAfterTicks_msCnt_ne_zero {s : State} {k : Nat} (h : k < s.regs.msCnt.toNat) :
    (regsAfterTicks s k).msCnt ≠ 0#32 := by
  rw [BitVec.toNat_ne, regsAfterTicks_msCnt_toNat]
  exact (Nat.sub_pos_of_lt h).ne'

/-- Counting one more step of a wait. -/
theorem tickedCounter_of_regsAfterTicks {s u : State} {k : Nat} (h : u.regs = regsAfterTicks s k) :
    { u.regs with msCnt := tickedCounter u } =
      regsAfterTicks s (k + if (inputs u).tick then 1 else 0) := by
  have hms : tickedCounter u = (regsAfterTicks s (k + if (inputs u).tick then 1 else 0)).msCnt := by
    apply BitVec.eq_of_toNat_eq
    rw [tickedCounter_toNat, h, regsAfterTicks_msCnt_toNat, regsAfterTicks_msCnt_toNat, Nat.sub_sub]
  rw [hms, h]
  rfl

/-- As long as fewer ticks have come than the counter held, a wait goes on: the counter shows the ticks left, and every
tick that came is consumed (R70, R74). -/
theorem run_of_waiting {s : State} {n : Nat} (hst : isWait s.regs.st = true) (hr : NoReset s n)
    (hlt : ∀ m, m < n → ticksIn s 0 m < s.regs.msCnt.toNat) :
    ∃ t, run n s = .next t ∧ t.regs = regsAfterTicks s (ticksIn s 0 n) ∧ consumed n s = ticksIn s 0 n := by
  induction n with
  | zero => exact ⟨s, rfl, (regsAfterTicks_zero s).symm, rfl⟩
  | succ n ih =>
    obtain ⟨u, hu, hregs, hcons⟩ := ih (hr.of_le n.le_succ) fun m hm => hlt m (hm.trans n.lt_succ_self)
    have hin : inputs u = inputsAt s (0 + n) := by rw [inputs_of_run hu, Nat.zero_add]
    have hwait : isWait u.regs.st = true := by rw [hregs]; exact hst
    have hms : u.regs.msCnt ≠ 0#32 := by
      rw [hregs]
      exact regsAfterTicks_msCnt_ne_zero (hlt n n.lt_succ_self)
    have hru : (inputs u).rst = false := inputs_of_run hu ▸ hr n n.lt_succ_self
    have hstep := step_of_waiting hwait hms hru
    refine ⟨_, by rw [run_succ_eq_andThen_step, hu, andThen_next, hstep], ?_, ?_⟩
    · exact (tickedCounter_of_regsAfterTicks hregs).trans (by rw [hin, ticksIn_succ])
    · rw [consumed_succ_of_run hu hstep, countsTick_of_waiting hwait hms hru, hcons, hin, ticksIn_succ]

/-- The end of a wait whose last tick is the `w`-th: its registers are as before but for the counter, which is 0, and
what the control operation then gives is the outcome of the step after it. -/
theorem run_of_wait_done {s : State} {w : Nat} (hst : isWait s.regs.st = true) (hr : NoReset s (w + 1))
    (hticks : ticksIn s 0 w = s.regs.msCnt.toNat) (hlt : ∀ m, m < w → ticksIn s 0 m < s.regs.msCnt.toNat) :
    ∃ u, u.regs = { s.regs with msCnt := 0#32 } ∧
      ∀ v, ControlMove (beginStep u) v → v.regs.msCnt = 0#32 →
        run (w + 1) s = .next (endStep v) ∧ consumed (w + 1) s = s.regs.msCnt.toNat := by
  obtain ⟨u, hu, hregs, hcons⟩ := run_of_waiting hst (hr.of_le w.le_succ) hlt
  have hzero : u.regs = { s.regs with msCnt := 0#32 } := by
    rw [hregs, hticks, regsAfterTicks, Nat.sub_self]
  refine ⟨u, hzero, fun v hv hms => ?_⟩
  have hru : (inputs u).rst = false := inputs_of_run hu ▸ hr w w.lt_succ_self
  have hstep := step_of_controlMove_zero hru hv hms
  have hnone : countsTick u = false := countsTick_of_zero (by rw [hzero])
  refine ⟨by rw [run_succ_eq_andThen_step, hu, andThen_next, hstep], ?_⟩
  rw [consumed_succ_of_run hu hstep, hnone, hcons, hticks]
  rfl

/-- Settles O40: the wait goes on by induction on its steps, and the zero test then leaves it for the successor of its
state. -/
theorem waitLastsExactlyItsTicks : Obligations.WaitLastsExactlyItsTicks := by
  intro s w hst hr hticks hlt
  refine ⟨fun m hm => ?_, ?_⟩
  · obtain ⟨t, ht, hregs, -⟩ := run_of_waiting hst (hr.of_le (hm.trans w.le_succ))
      fun k hk => hlt k (hk.trans_le hm)
    exact ⟨t, ht, hregs⟩
  · obtain ⟨u, hu, hdone⟩ := run_of_wait_done hst hr hticks hlt
    have hkeep : u.regs.st = s.regs.st := by rw [hu]
    have hms : u.regs.msCnt = 0#32 := by rw [hu]
    cases hk : s.regs.st with
    | settle =>
      obtain ⟨hrun, hcons⟩ := hdone _ (.settles (s := beginStep u) (hkeep.trans hk) hms) hms
      exact ⟨⟨_, hrun, hms, fun _ => rfl, nofun, nofun⟩, hcons⟩
    | relWait =>
      obtain ⟨hrun, hcons⟩ := hdone _ (.rereads (s := beginStep u) (hkeep.trans hk) hms) hms
      exact ⟨⟨_, hrun, hms, nofun, fun _ => rfl, nofun⟩, hcons⟩
    | hsleep =>
      obtain ⟨hrun, hcons⟩ := hdone _ (.wakes (s := beginStep u) (hkeep.trans hk) hms) hms
      exact ⟨⟨_, hrun, hms, nofun, nofun, fun _ => ⟨rfl, rfl⟩⟩, hcons⟩
    | idle | scan | check | relRead => simp [hk, isWait] at hst

/-- Settles O41: the accepting step, at which no tick is counted, and the wait that begins after it. -/
theorem sleepCallLastsItsTicks : Obligations.SleepCallLastsItsTicks := by
  rintro s d w hst hcmd hd ⟨hticks, hlt⟩ hr
  have haccept := step_of_sleep hst hcmd hd (hr 0 (Nat.succ_pos _))
  set a := endStep (setSt .hsleep (tbLoad d (clearResponse s)))
  have hwait : isWait a.regs.st = true := rfl
  have hra : NoReset a (w + 1) := hr.of_step haccept
  simp only [← ticksIn_of_step haccept] at hticks hlt
  refine ⟨fun m hm hmw => ?_, ?_⟩
  · obtain ⟨k, rfl⟩ := Nat.exists_eq_succ_of_ne_zero (Nat.ne_of_gt hm)
    have hkw : k ≤ w := Nat.le_of_succ_le_succ hmw
    obtain ⟨t, ht, hregs, -⟩ := run_of_waiting hwait (hra.of_le (hkw.trans w.le_succ))
      fun j hj => hlt j (hj.trans_le hkw)
    exact ⟨t, (run_succ_of_step haccept).trans ht, by rw [hregs]; rfl, by rw [hregs]; rfl⟩
  · obtain ⟨u, hu, hdone⟩ := run_of_wait_done hwait hra hticks hlt
    have hust : u.regs.st = .hsleep := by rw [hu]; rfl
    have hms : u.regs.msCnt = 0#32 := by rw [hu]
    obtain ⟨hrun, hcons⟩ := hdone _ (.wakes (s := beginStep u) hust hms) hms
    have hnone : countsTick s = false := countsTick_of_not_wait (by rw [hst]; rfl)
    refine ⟨⟨_, (run_succ_of_step haccept).trans hrun, regs_ext rfl rfl rfl hms rfl rfl rfl⟩, ?_⟩
    rw [consumed_succ_of_step haccept, hnone, hcons]
    exact Nat.zero_add _

/-- Settles O42: the zeroth tick after the acceptance comes at once. -/
theorem sleepZeroNeedsNoTick : Obligations.SleepZeroNeedsNoTick := by
  intro s hst hcmd hword hr
  have hd : decode (.cmd (inputs s).cmd) = .instr (.sleep 0#32) := by
    rw [hword]
    exact decode_encode (.sleep 0#32)
  obtain ⟨-, hdone, hcons⟩ := sleepCallLastsItsTicks s 0#32 0 hst hcmd hd ⟨rfl, nofun⟩ hr
  exact ⟨hcons, hdone⟩

end Sys2Proof.Machine

/-! ### The debounce operations, one by one (R80 to R86) -/

namespace Sys2Proof.Machine

/-- Settles O13. -/
theorem rdbtnIsAcceptedInIdle : Obligations.RdbtnIsAcceptedInIdle :=
  fun _ hst => exec_rdbtn_of_idle hst

/-- Settles O15: IDLE is the command it is offered, and the operation bit says which one that is. -/
theorem idlePerformsTheOfferedCommand : Obligations.IdlePerformsTheOfferedCommand := by
  refine fun s hst => ⟨exec_idle_of_no_command, fun hcmd hop => ?_, fun hcmd hop => ?_⟩ <;>
    rw [exec_idle_of_command hcmd]
  · rw [(offered_rdbtn_iff s).2 hop]
    exact exec_rdbtn_of_idle hst
  · rw [(offered_sleep_iff s _).2 ⟨hop, rfl⟩, ← BitVec.setWidth_eq_extractLsb' (by decide)]
    exact exec_sleep_of_idle _ hst

/-- Settles O16. -/
theorem scanWithAllLinesHighReturnsNone : Obligations.ScanWithAllLinesHighReturnsNone :=
  fun _ hv => exec_scan_of_allHigh hv

/-- Settles O17. -/
theorem scanTakesTheLowestLowLine : Obligations.ScanTakesTheLowestLowLine :=
  fun _ _ hv => exec_scan_of_isFirstLow hv

/-- Settles O18. -/
theorem settleWaitsForZero : Obligations.SettleWaitsForZero :=
  fun _ => ⟨fun hms => congrArg _ (waitZero_nonzero _ hms), fun hms => congrArg _ (waitZero_zero _ hms)⟩

/-- Settles O19. -/
theorem checkDecidesOnTheCandidate : Obligations.CheckDecidesOnTheCandidate :=
  fun _ hc => ⟨fun hl => exec_check_eq_next_iff.2 ⟨hc, .inl ⟨hl, rfl⟩⟩,
    fun hl => exec_check_eq_next_iff.2 ⟨hc, .inr ⟨hl, rfl⟩⟩⟩

/-- Settles O20. -/
theorem relReadReportsOrPolls : Obligations.RelReadReportsOrPolls :=
  fun _ hc => ⟨fun hl => exec_relRead_eq_next_iff.2 ⟨hc, .inl ⟨hl, rfl⟩⟩,
    fun hl => exec_relRead_eq_next_iff.2 ⟨hc, .inr ⟨hl, rfl⟩⟩⟩

/-- Settles O21. -/
theorem relWaitWaitsForZero : Obligations.RelWaitWaitsForZero :=
  fun _ => ⟨fun hms => congrArg _ (waitZero_nonzero _ hms), fun hms => congrArg _ (waitZero_zero _ hms)⟩

end Sys2Proof.Machine

/-! ### What one step does to the candidate and to the response (R80, R88, R91, R92) -/

namespace Sys2Proof.Machine

@[simp] theorem tickIf_candV (b : Bool) (s : State) : (tickIf b s).regs.candV = s.regs.candV := by cases b <;> simp
@[simp] theorem tickIf_cand (b : Bool) (s : State) : (tickIf b s).regs.cand = s.regs.cand := by cases b <;> simp
@[simp] theorem tickIf_rspSome (b : Bool) (s : State) : (tickIf b s).regs.rspSome = s.regs.rspSome := by
  cases b <;> simp
@[simp] theorem tickIf_rspIdx (b : Bool) (s : State) : (tickIf b s).regs.rspIdx = s.regs.rspIdx := by
  cases b <;> simp

/-- A step without reset is a control operation and then the tick. -/
theorem exists_controlMove_of_step {s t : State} (h : step s = .next t) (hr : (inputs s).rst = false) :
    ∃ u, ControlMove (beginStep s) u ∧ t = endStep (tickIf (inputs s).tick u) := by
  obtain ⟨hr', -⟩ | ⟨-, h⟩ := step_eq_next_iff.1 h
  · simp [hr] at hr'
  · exact h

/-- Settles O51. -/
theorem waitsCannotBeCancelled : Obligations.WaitsCannotBeCancelled := by
  intro s i hst hms hr
  refine ⟨_, step_of_waiting (s := present i s) hst hms hr, ?_⟩
  simp [tickedCounter, hms]

theorem ControlMove.keeps_candidate {s t : State} (h : ControlMove s t) (hst : holdsCandidate s.regs.st = true) :
    t.regs.st = .idle ∨
      (holdsCandidate t.regs.st = true ∧ t.regs.cand = s.regs.cand ∧ t.regs.candV = s.regs.candV) := by
  cases h with
  | discards | reports => exact .inl rfl
  | waits => exact .inr ⟨hst, rfl, rfl⟩
  | settles | confirms | polls | rereads => exact .inr ⟨rfl, rfl, rfl⟩
  | idles hk | acceptsRdbtn hk | acceptsSleep _ hk | scansNone hk | scansCandidate _ hk | wakes hk =>
    simp [hk, holdsCandidate] at hst

theorem ControlMove.scan_of_sets_candidate {s t : State} (h : ControlMove s t) (hs : s.regs.candV = false)
    (ht : t.regs.candV = true) : s.regs.st = .scan := by
  cases h with
  | scansCandidate c hst => exact hst
  | acceptsRdbtn | scansNone | discards | reports | wakes => cases ht
  | idles | acceptsSleep | waits | settles | confirms | polls | rereads => cases hs.symm.trans ht

/-- Settles O52: each control operation does so, and the tick keeps `st` and the candidate. -/
theorem oneCandidatePerCall : Obligations.OneCandidatePerCall := by
  intro s t h hr
  obtain ⟨u, hu, rfl⟩ := exists_controlMove_of_step h hr
  refine ⟨fun hst => ?_, fun hs ht => hu.scan_of_sets_candidate hs (by simpa using ht)⟩
  simpa using hu.keeps_candidate hst

/-- The operation of `s` completes a command with the result `r`: `Some` of the candidate that REL_READ reads high, and
`None` in SCAN, CHECK and HSLEEP (R92). -/
inductive CompletesWith (s : State) : Option LineIndex → Prop where
  | reported (hst : s.regs.st = .relRead) (hl : (inputs s).line.getLsbD s.regs.cand.toNat = true) :
      CompletesWith s (some s.regs.cand)
  | unreported (hst : s.regs.st = .scan ∨ s.regs.st = .check ∨ s.regs.st = .hsleep) : CompletesWith s none

theorem ControlMove.exists_complete {s t : State} (h : ControlMove s t) (hs : s.regs.st ≠ .idle)
    (ht : t.regs.st = .idle) : ∃ r, t = complete r s ∧ CompletesWith s r := by
  cases h with
  | idles hst | acceptsRdbtn hst | acceptsSleep _ hst => exact absurd hst hs
  | waits => exact absurd ht hs
  | scansCandidate | settles | confirms | polls | rereads => cases ht
  | scansNone hst => exact ⟨_, rfl, .unreported (.inl hst)⟩
  | discards hst => exact ⟨_, rfl, .unreported (.inr (.inl hst))⟩
  | wakes hst => exact ⟨_, rfl, .unreported (.inr (.inr hst))⟩
  | reports hst hc hl => exact ⟨_, rfl, .reported hst hl⟩

theorem exists_complete_of_step {s t : State} (h : step s = .next t) (hr : (inputs s).rst = false)
    (hs : s.regs.st ≠ .idle) (ht : t.regs.st = .idle) :
    ∃ r, CompletesWith s r ∧ t = endStep (tickIf (inputs s).tick (complete r (beginStep s))) := by
  obtain ⟨u, hu, rfl⟩ := exists_controlMove_of_step h hr
  obtain ⟨r, rfl, hc⟩ := hu.exists_complete hs (by simpa using ht)
  refine ⟨r, ?_, rfl⟩
  cases hc with
  | reported hst hl => exact .reported hst hl
  | unreported hst => exact .unreported hst

/-- Settles O54. -/
theorem idleIsEnteredByCompletion : Obligations.IdleIsEnteredByCompletion := by
  intro s t h hr hs ht
  obtain ⟨r, hc, rfl⟩ := exists_complete_of_step h hr hs ht
  refine ⟨by simp, by simp, by simp, by simp [outputs], ?_⟩
  cases hc with
  | reported hst => exact .inl ⟨hst, by simp, by simp⟩
  | unreported hst => exact .inr ⟨hst, by simp, by simp⟩

/-- A step in IDLE without a command keeps every register, when the counter is 0. -/
theorem step_of_no_command {s : State} (hst : s.regs.st = .idle) (hms : s.regs.msCnt = 0#32)
    (hr : (inputs s).rst = false) (hcmd : (inputs s).cmdValid = false) : step s = .next (endStep (beginStep s)) :=
  step_of_controlMove_zero hr (.idles (s := beginStep s) hst hcmd) hms

/-- The step that accepts a command leaves IDLE and clears the response, whichever command it is. -/
theorem exists_step_of_command {s : State} (hst : s.regs.st = .idle) (hr : (inputs s).rst = false)
    (hcmd : (inputs s).cmdValid = true) : ∃ u, step s = .next u ∧ u.regs.st ≠ .idle ∧
      u.regs.rspV = false ∧ u.regs.rspSome = false ∧ u.regs.rspIdx = 0#2 := by
  cases ho : offered s with
  | rdbtn => exact ⟨_, step_of_controlMove hr (.acceptsRdbtn (s := beginStep s) hst hcmd ho), by simp⟩
  | sleep d => exact ⟨_, step_of_controlMove hr (.acceptsSleep (s := beginStep s) d hst hcmd ho), by simp⟩

theorem run_of_no_command {s : State} {n : Nat} (hst : s.regs.st = .idle) (hms : s.regs.msCnt = 0#32)
    (hquiet : ∀ k, k < n → (inputsAt s k).rst = false ∧ (inputsAt s k).cmdValid = false) :
    ∃ t, run n s = .next t ∧ t.regs = s.regs := by
  induction n with
  | zero => exact ⟨s, rfl, rfl⟩
  | succ n ih =>
    obtain ⟨u, hu, hregs⟩ := ih fun k hk => hquiet k (hk.trans n.lt_succ_self)
    obtain ⟨hr, hcmd⟩ := inputs_of_run hu ▸ hquiet n n.lt_succ_self
    have hstep := step_of_no_command (hregs ▸ hst) (hregs ▸ hms) hr hcmd
    exact ⟨endStep (beginStep u), by rw [run_succ_eq_andThen_step, hu, andThen_next, hstep], hregs⟩

/-- Settles O55: under the invariants the counter is 0 in IDLE, so that not even a tick changes anything. -/
theorem idleHoldsTheResponse : Obligations.IdleHoldsTheResponse := by
  intro s n hs hst hquiet
  obtain ⟨t, ht, hregs⟩ := run_of_no_command hst (hs.msCnt_eq_zero (by rw [hst]; rfl)) hquiet
  refine ⟨t, ht, hregs, fun hr hcmd => ?_⟩
  rw [← inputs_of_run ht] at hr hcmd
  rw [run_succ_eq_andThen_step, ht, andThen_next]
  exact exists_step_of_command (hregs ▸ hst) hr hcmd

end Sys2Proof.Machine

/-! ### RDBTN calls, leg by leg (R82 to R86, R89, R138) -/

namespace Sys2Proof.Machine

/-- A run goes on from any state it reaches. -/
theorem run_add_of_run {m : Nat} {s u : State} (h : run m s = .next u) (n : Nat) : run (m + n) s = run n u := by
  induction n with
  | zero => exact h
  | succ n ih => rw [← Nat.add_assoc, run_succ_eq_andThen_step, ih, ← run_succ_eq_andThen_step]

theorem consumed_add_of_run {m n : Nat} {s u v : State} (hu : run m s = .next u) (hv : run n u = .next v) :
    consumed (m + n) s = consumed m s + consumed n u := by
  induction n generalizing v with
  | zero => rfl
  | succ n ih =>
    obtain ⟨w, hw, hwv⟩ := run_succ_eq_next hv
    have hmn : run (m + n) s = .next w := (run_add_of_run hu n).trans hw
    rw [← Nat.add_assoc, consumed_succ_of_run hmn hwv, ih hw, consumed_succ_of_run hw hwv, Nat.add_assoc]

theorem NoReset.of_run {s u : State} {m n : Nat} (h : NoReset s (m + n)) (hu : run m s = .next u) : NoReset u n :=
  fun k hk => (run_environment hu).2 k ▸ h (m + k) (Nat.add_lt_add_left hk m)

theorem ticksIn_of_run {s u : State} {m : Nat} (hu : run m s = .next u) (e n : Nat) :
    ticksIn u e n = ticksIn s (m + e) n := by
  induction n with
  | zero => rfl
  | succ n ih => rw [ticksIn_succ, ticksIn_succ, ih, (run_environment hu).2, Nat.add_assoc]

/-- After `n` steps from `s` the registers are `r`, and `k` ticks were consumed. -/
def Reaches (n : Nat) (s : State) (r : Regs) (k : Nat) : Prop :=
  consumed n s = k ∧ ∃ t, run n s = .next t ∧ t.regs = r

/-- Under the parameters `p` and the inputs `i` a step takes the registers `r` to `r'`. -/
def RegsMove (p : Params) (i : Inputs) (r r' : Regs) : Prop :=
  ∀ s : State, s.regs = r → s.cfg = p → inputs s = i → ∃ t, step s = .next t ∧ t.regs = r'

theorem reaches_zero (s : State) : Reaches 0 s s.regs 0 := ⟨rfl, s, rfl, rfl⟩

/-- One step more, from a state that is no wait, consumes no tick. -/
theorem Reaches.step {n k : Nat} {s : State} {r r' : Regs} (h : Reaches n s r k) (hst : isWait r.st = false)
    (hmove : RegsMove s.cfg (inputsAt s n) r r') : Reaches (n + 1) s r' k := by
  obtain ⟨hcons, u, hu, rfl⟩ := h
  obtain ⟨v, huv, hv⟩ := hmove u rfl (run_environment hu).1 (inputs_of_run hu)
  refine ⟨?_, v, by rw [run_succ_eq_andThen_step, hu, andThen_next, huv], hv⟩
  rw [consumed_succ_of_run hu huv, hcons, countsTick_of_not_wait hst]
  rfl

/-- A wait of `d` ticks, loaded at the `e`-th coming step and left for `k'`, takes `w + 1` steps more and consumes `d`
ticks. -/
theorem Reaches.wait {s : State} {e w j : Nat} {k k' : CtrlState} {c : LineIndex} {d : Word}
    (h : Reaches (e + 1) s (inFlight k true c d) j) (hk : isWait k = true) (hw : TicksAfter s e d w)
    (hr : NoReset s (e + w + 2))
    (hdone : ∀ u : State, u.regs = inFlight k true c 0#32 → ControlMove u (setSt k' u)) :
    Reaches (e + w + 2) s (inFlight k' true c 0#32) (j + d.toNat) := by
  obtain ⟨hcons, a, ha, hregs⟩ := h
  have hlen : e + w + 2 = e + 1 + (w + 1) := by omega
  rw [hlen] at hr ⊢
  have hms : a.regs.msCnt = d := by rw [hregs]; rfl
  obtain ⟨hticks, hlt⟩ := hw
  obtain ⟨u, hu, hend⟩ := run_of_wait_done (s := a) (w := w) (by rw [hregs]; exact hk) (hr.of_run ha)
    (by rw [ticksIn_of_run ha, hms]; exact hticks) (by simpa only [ticksIn_of_run ha, hms] using hlt)
  replace hu : u.regs = inFlight k true c 0#32 := by rw [hu, hregs]; rfl
  obtain ⟨hrun, hconsa⟩ := hend _ (hdone (beginStep u) hu) (by simp [hu, inFlight])
  refine ⟨?_, _, (run_add_of_run ha _).trans hrun, by simp [setSt, hu, inFlight]⟩
  rw [consumed_add_of_run ha hrun, hcons, hconsa, hms]

/-- The registers after a call that answered `r` (R92). -/
def answered (r : Option LineIndex) : Regs :=
  { Regs.reset with rspV := true, rspSome := r.isSome, rspIdx := r.getD 0#2 }

section
variable {p : Params} {i : Inputs} {c : LineIndex}

theorem regsMove_scan_none (hr : i.rst = false) (hv : AllHigh p.lines i.line) :
    RegsMove p i (inFlight .scan false 0#2 0#32) (answered none) := by
  rintro ⟨_, _, _, _, _⟩ rfl rfl rfl
  exact ⟨_, step_of_controlMove_zero hr (.scansNone rfl hv) rfl, rfl⟩

theorem regsMove_scan_candidate (d : Word) (hr : i.rst = false) (hv : IsFirstLow p.lines i.line c) :
    RegsMove p i (inFlight .scan false 0#2 d) (inFlight .settle true c p.settleMs) := by
  rintro ⟨_, _, _, _, _⟩ rfl rfl rfl
  exact ⟨_, step_of_controlMove_loaded hr (.scansCandidate c rfl hv) rfl, rfl⟩

theorem regsMove_check_high (hr : i.rst = false) (hc : c.toNat < p.lines.toNat)
    (hl : i.line.getLsbD c.toNat = true) :
    RegsMove p i (inFlight .check true c 0#32) (answered none) := by
  rintro ⟨_, _, _, _, _⟩ rfl rfl rfl
  exact ⟨_, step_of_controlMove_zero hr (.discards rfl hc hl) rfl, rfl⟩

theorem regsMove_check_low (hr : i.rst = false) (hc : c.toNat < p.lines.toNat)
    (hl : i.line.getLsbD c.toNat = false) :
    RegsMove p i (inFlight .check true c 0#32) (inFlight .relRead true c 0#32) := by
  rintro ⟨_, _, _, _, _⟩ rfl rfl rfl
  exact ⟨_, step_of_controlMove_zero hr (.confirms rfl hc hl) rfl, rfl⟩

theorem regsMove_relRead_high (hr : i.rst = false) (hc : c.toNat < p.lines.toNat)
    (hl : i.line.getLsbD c.toNat = true) :
    RegsMove p i (inFlight .relRead true c 0#32) (answered (some c)) := by
  rintro ⟨_, _, _, _, _⟩ rfl rfl rfl
  exact ⟨_, step_of_controlMove_zero hr (.reports rfl hc hl) rfl, rfl⟩

theorem regsMove_relRead_low (hr : i.rst = false) (hc : c.toNat < p.lines.toNat)
    (hl : i.line.getLsbD c.toNat = false) :
    RegsMove p i (inFlight .relRead true c 0#32) (inFlight .relWait true c p.pollMs) := by
  rintro ⟨_, _, _, _, _⟩ rfl rfl rfl
  exact ⟨_, step_of_controlMove_loaded hr (.polls rfl hc hl) rfl, rfl⟩

end

theorem offered_of_decode_rdbtn {s : State} (h : decode (.cmd (inputs s).cmd) = .instr .rdbtn) :
    offered s = .rdbtn := by
  replace h : Decoded.instr (offered s).instr = .instr .rdbtn := h
  cases ho : offered s with
  | rdbtn => rfl
  | sleep e => rw [ho] at h; cases h

/-- The step that accepts a RDBTN (R80, R81); a counter that is not 0 may count its tick. -/
theorem exists_step_of_rdbtn {s : State} (hst : s.regs.st = .idle) (hcmd : (inputs s).cmdValid = true)
    (hd : decode (.cmd (inputs s).cmd) = .instr .rdbtn) (hr : (inputs s).rst = false) :
    ∃ t, step s = .next t ∧ t.regs = inFlight .scan false 0#2 (tickedCounter s) := by
  have hmove := ControlMove.acceptsRdbtn (s := beginStep s) hst hcmd (offered_of_decode_rdbtn hd)
  refine ⟨_, step_of_controlMove hr hmove, ?_⟩
  rw [tickIf_of_not_loaded _ rfl]
  rfl

theorem reaches_scan {s : State} (hst : s.regs.st = .idle) (hcmd : (inputs s).cmdValid = true)
    (hd : decode (.cmd (inputs s).cmd) = .instr .rdbtn) (hr : (inputs s).rst = false) :
    Reaches 1 s (inFlight .scan false 0#2 (tickedCounter s)) 0 := by
  obtain ⟨t, ht, hregs⟩ := exists_step_of_rdbtn hst hcmd hd hr
  have hnone : countsTick s = false := countsTick_of_not_wait (by rw [hst]; rfl)
  exact ⟨by rw [consumed_succ_of_step ht, hnone]; rfl, t, run_succ_of_step ht, hregs⟩

/-- Settles O43: the accepting step and the scan. -/
theorem noPressCallAnswersNoneAtOnce : Obligations.NoPressCallAnswersNoneAtOnce := by
  intro s hs hst hcmd hd hv hr
  have hzero : tickedCounter s = 0#32 := by
    simp [tickedCounter, hs.msCnt_eq_zero (show isWait s.regs.st = false by rw [hst]; rfl)]
  have hscan := reaches_scan hst hcmd hd (hr 0 (by omega))
  rw [hzero] at hscan
  exact hscan.step rfl (regsMove_scan_none (hr 1 (by omega)) hv)

/-- The part that noise and a press have in common: a scan that finds line `c`, and the settle interval. -/
theorem reaches_check {s : State} {c : LineIndex} {w : Nat} (hst : s.regs.st = .idle)
    (hcmd : (inputs s).cmdValid = true) (hd : decode (.cmd (inputs s).cmd) = .instr .rdbtn)
    (hv : IsFirstLow s.cfg.lines (inputsAt s 1).line c) (hw : TicksAfter s 1 s.cfg.settleMs w)
    (hr : NoReset s (w + 3)) : Reaches (w + 3) s (inFlight .check true c 0#32) s.cfg.settleMs.toNat := by
  have hscan := reaches_scan hst hcmd hd (hr 0 (by omega))
  have hsettle := hscan.step rfl (regsMove_scan_candidate _ (hr 1 (by omega)) hv)
  have hlen : w + 3 = 1 + w + 2 := by omega
  rw [hlen] at hr ⊢
  simpa only [Nat.zero_add] using hsettle.wait rfl hw hr fun u hu => .settles (by rw [hu]; rfl) (by rw [hu]; rfl)

/-- Settles O44: after the settle interval CHECK discards the candidate. -/
theorem noiseCallAnswersNone : Obligations.NoiseCallAnswersNone := by
  intro s c w hst hcmd hd hv hw hl hr
  have hcheck := reaches_check hst hcmd hd hv hw (hr.of_le (by omega))
  exact hcheck.step rfl (regsMove_check_high (hr (w + 3) (by omega)) hv.1 hl)

theorem Polls.le {s : State} {c : LineIndex} {p k q : Nat} (h : Polls s c p k q) : p ≤ q := by
  induction h with
  | released => exact le_rfl
  | held p w k q _ _ _ ih => omega

/-- The release-wait: each poll that reads the line low costs one poll interval, and the one that reads it high
answers. -/
theorem Reaches.polls {s : State} {c : LineIndex} {p k q j : Nat}
    (h : Reaches p s (inFlight .relRead true c 0#32) j) (hpolls : Polls s c p k q)
    (hc : c.toNat < s.cfg.lines.toNat) (hr : NoReset s (q + 1)) :
    Reaches (q + 1) s (answered (some c)) (j + k * s.cfg.pollMs.toNat) := by
  induction hpolls generalizing j with
  | released p hl =>
    rw [Nat.zero_mul]
    exact h.step rfl (regsMove_relRead_high (hr p p.lt_succ_self) hc hl)
  | held p w k q hl hw rest ih =>
    have hle := rest.le
    have hload := h.step rfl (regsMove_relRead_low (hr p (by omega)) hc hl)
    have hread := hload.wait rfl hw (hr.of_le (by omega)) fun u hu => .rereads (by rw [hu]; rfl) (by rw [hu]; rfl)
    rw [Nat.succ_mul, Nat.add_comm (k * _), ← Nat.add_assoc]
    exact ih hread hr

/-- Settles O45: after the settle interval CHECK confirms the candidate, and the polls follow. -/
theorem pressCallAnswersItsLine : Obligations.PressCallAnswersItsLine := by
  intro s c w k q hst hcmd hd hv hw hl hpolls hr
  have hle := hpolls.le
  have hcheck := reaches_check hst hcmd hd hv hw (hr.of_le (by omega))
  have hread := hcheck.step rfl (regsMove_check_low (hr (w + 3) (by omega)) hv.1 hl)
  exact hread.polls hpolls hv.1 hr

end Sys2Proof.Machine

/-! ### What a call that answers `Some` has seen (R88) -/

namespace Sys2Proof.Machine

/-- The state that a run reaches reads the lines of the step that follows it. -/
theorem lineAt_of_run {n : Nat} {s u : State} (h : run n s = .next u) (c : LineIndex) :
    lineAt s n c = (inputs u).line.getLsbD c.toNat := by
  rw [lineAt, inputs_of_run h]

/-- Among the first `m` steps of the run from `s` there is a CHECK that reads line `c` low. -/
def ConfirmedBefore (s : State) (m : Nat) (c : LineIndex) : Prop :=
  ∃ k u, k < m ∧ run k s = .next u ∧ u.regs.st = .check ∧ lineAt s k c = false

theorem ConfirmedBefore.succ {s : State} {m : Nat} {c : LineIndex} (h : ConfirmedBefore s m c) :
    ConfirmedBefore s (m + 1) c := by
  obtain ⟨k, u, hk, hrest⟩ := h
  exact ⟨k, u, hk.trans m.lt_succ_self, hrest⟩

/-- What a RDBTN accepted at the coming step has seen when, `m` steps later, it is in the control state `k` with the
candidate `c`. It is then neither in IDLE nor in HSLEEP. -/
def CallHistory (s : State) (m : Nat) (c : LineIndex) : CtrlState → Prop
  | .scan => m = 1
  | .settle | .check => IsFirstLow s.cfg.lines (inputsAt s 1).line c
  | .relRead | .relWait => IsFirstLow s.cfg.lines (inputsAt s 1).line c ∧ ConfirmedBefore s m c
  | .idle | .hsleep => False

theorem CallHistory.waiting {s : State} {m : Nat} {c : LineIndex} {k : CtrlState} (h : CallHistory s m c k)
    (hk : isWait k = true) : CallHistory s (m + 1) c k := by
  cases k with
  | settle => exact h
  | relWait => exact ⟨h.1, h.2.succ⟩
  | hsleep => exact h.elim
  | idle | scan | check | relRead => cases hk

/-- A step of the call that does not complete it adds to its history. -/
theorem CallHistory.step {s u t : State} {m : Nat} (h : CallHistory s m u.regs.cand u.regs.st)
    (hu : run m s = .next u) (hut : step u = .next t) (hr : (inputs u).rst = false) (ht : t.regs.st ≠ .idle) :
    CallHistory s (m + 1) t.regs.cand t.regs.st := by
  obtain ⟨v, hv, rfl⟩ := exists_controlMove_of_step hut hr
  simp only [endStep_regs, tickIf_st, tickIf_cand] at ht ⊢
  rw [← beginStep_regs u] at h
  cases hv with
  | idles hst | acceptsRdbtn hst | acceptsSleep _ hst | wakes hst =>
    rw [hst] at h
    exact h.elim
  | scansNone | discards | reports => exact absurd rfl ht
  | scansCandidate c hst hv =>
    rw [hst] at h
    obtain rfl : m = 1 := h
    obtain ⟨hcfg, -⟩ := run_environment hu
    rw [beginStep_cfg, inputs_beginStep, hcfg, inputs_of_run hu] at hv
    exact hv
  | waits hst => exact h.waiting hst
  | settles hst => rw [hst] at h; exact h
  | confirms hst hc hl =>
    rw [hst] at h
    exact ⟨h, m, u, m.lt_succ_self, hu, hst, (lineAt_of_run hu _).trans hl⟩
  | polls hst | rereads hst =>
    rw [hst] at h
    exact ⟨h.1, h.2.succ⟩

/-- A RDBTN that is still in flight after `n + 1` steps has the history of its control state. -/
theorem callHistory_of_run {s t : State} {n : Nat} (hst : s.regs.st = .idle) (hcmd : (inputs s).cmdValid = true)
    (hd : decode (.cmd (inputs s).cmd) = .instr .rdbtn) (hr : NoReset s (n + 1))
    (hbusy : ∀ m u, 0 < m → m ≤ n + 1 → run m s = .next u → u.regs.st ≠ .idle)
    (ht : run (n + 1) s = .next t) :
    CallHistory s (n + 1) t.regs.cand t.regs.st := by
  induction n generalizing t with
  | zero =>
    obtain ⟨-, u, hu, hregs⟩ := reaches_scan hst hcmd hd (hr 0 Nat.one_pos)
    cases hu.symm.trans ht
    rw [hregs]
    rfl
  | succ n ih =>
    obtain ⟨u, hu, hut⟩ := run_succ_eq_next ht
    have hprev := ih (hr.of_le (n + 1).le_succ) (fun m v hm hmn => hbusy m v hm (hmn.trans (n + 1).le_succ)) hu
    exact hprev.step hu hut (inputs_of_run hu ▸ hr (n + 1) (n + 1).lt_succ_self)
      (hbusy (n + 2) t (Nat.succ_pos _) le_rfl ht)

/-- Settles O46: only REL_READ answers `Some`, of the candidate that it reads high, and the history of a call in
REL_READ gives the rest. -/
theorem someIsAnsweredOnlyForItsLine : Obligations.SomeIsAnsweredOnlyForItsLine := by
  intro s t n hst hcmd hd hr hbusy ht hidle hsome
  cases n with
  | zero =>
    obtain ⟨-, u, hu, hregs⟩ := reaches_scan hst hcmd hd (hr 0 Nat.one_pos)
    cases hu.symm.trans ht
    rw [hregs] at hidle
    cases hidle
  | succ n =>
    obtain ⟨u, hu, hut⟩ := run_succ_eq_next ht
    have hru : (inputs u).rst = false := inputs_of_run hu ▸ hr (n + 1) (n + 1).lt_succ_self
    have hhist := callHistory_of_run hst hcmd hd (hr.of_le (n + 1).le_succ) hbusy hu
    obtain ⟨r, hc, rfl⟩ := exists_complete_of_step hut hru (hbusy _ u n.succ_pos le_rfl hu) hidle
    cases hc with
    | unreported => simp at hsome
    | reported hrel hl =>
      rw [hrel] at hhist
      obtain ⟨hfirst, hconfirmed⟩ := hhist
      rw [endStep_regs, tickIf_rspIdx]
      exact ⟨hfirst, hconfirmed, (lineAt_of_run hu _).trans hl⟩

end Sys2Proof.Machine

/-! ### The step and the reference listing (R96, R97, R98, R102) -/

namespace Sys2Proof.Machine

theorem ControlMove.keepsEnvironment {s u : State} (h : ControlMove s u) : KeepsEnvironment s u :=
  exec_keepsEnvironment (exec_of_controlMove h)

/-- All that a step keeps of what its operations gave are the registers. -/
theorem KeepsEnvironment.endStep_eq {s u : State} (h : KeepsEnvironment s u) (r : Regs) :
    endStep { u with regs := r } = endStep { s with regs := r } :=
  state_ext rfl h.cfg (congrArg List.tail h.script) (congrArg (· + 1) h.now) rfl

/-- A step that loads nothing ends with the counter ticked. -/
theorem step_of_controlMove_unloaded {s u : State} (hr : (inputs s).rst = false) (h : ControlMove (beginStep s) u)
    (hl : u.loaded = false) (hms : u.regs.msCnt = s.regs.msCnt) :
    step s = .next (endStep { u with regs := { u.regs with msCnt := tickedCounter s } }) := by
  rw [step_of_controlMove hr h, tickIf_of_not_loaded _ hl, hms]
  rfl

theorem refCounter_none (s : State) : refCounter s.regs.msCnt (inputs s).tick none = tickedCounter s := by
  by_cases hdec : (inputs s).tick = true ∧ s.regs.msCnt ≠ 0#32
  · obtain ⟨ht, hms⟩ := hdec
    rw [tickedCounter, if_pos ⟨ht, hms⟩]
    refine (if_pos (by simp [ht, hms])).trans (BitVec.eq_of_toNat_eq ?_)
    rw [toNat_decrement hms, BitVec.toNat_ofNat, Nat.mod_eq_of_lt (by omega)]
  · rw [tickedCounter, if_neg hdec]
    exact if_neg (by simpa using hdec)

theorem lineIndex_cases (c : LineIndex) : c = 0#2 ∨ c = 1#2 ∨ c = 2#2 ∨ c = 3#2 := by
  revert c; decide

section
variable {p : Params} {r : Regs} {i : Inputs}

/-- The listing's chain of line tests falls through where every line below `N` is high. -/
theorem refControl_scan_of_allHigh (hst : r.st = .scan) (hv : AllHigh p.lines i.line) :
    refControl p r i = (refComplete r none, none) := by
  have hskip (k : LineIndex) : (decide (k.toNat < p.lines.toNat) && !i.line.getLsbD k.toNat) = false := by
    by_cases hk : k.toNat < p.lines.toNat
    · simp [hv k hk]
    · simp [hk]
  have h0 : i.line.getLsbD 0 = true := hv 0#2 (by cases p.lines <;> decide)
  have h1 : (decide (1 < p.lines.toNat) && !i.line.getLsbD 1) = false := hskip 1#2
  have h2 : (decide (2 < p.lines.toNat) && !i.line.getLsbD 2) = false := hskip 2#2
  have h3 : (decide (3 < p.lines.toNat) && !i.line.getLsbD 3) = false := hskip 3#2
  simp only [refControl, hst, h0, h1, h2, h3, Bool.not_true, Bool.false_eq_true, if_false]

/-- The listing's chain of line tests stops at the first low line. -/
theorem refControl_scan_of_isFirstLow {c : LineIndex} (hst : r.st = .scan) (hv : IsFirstLow p.lines i.line c) :
    refControl p r i = ({ r with candV := true, cand := c, st := .settle }, some p.settleMs) := by
  obtain ⟨hc, hl, hbelow⟩ := hv
  obtain rfl | rfl | rfl | rfl := lineIndex_cases c
  · simp_all [refControl]
  · have h0 := hbelow 0#2 (by decide)
    simp_all [refControl]
  · have h0 := hbelow 0#2 (by decide)
    have h1 := hbelow 1#2 (by decide)
    simp_all [refControl]
  · have h0 := hbelow 0#2 (by decide)
    have h1 := hbelow 1#2 (by decide)
    have h2 := hbelow 2#2 (by decide)
    simp_all [refControl]

end

/-- The listing makes the same move as the control operation: it requests the counter that the operation loaded, or
requests nothing where the operation loaded nothing. -/
theorem ControlMove.refControl_eq {s u : State} (h : ControlMove s u) (hs : s.loaded = false) :
    (u.loaded = true ∧
      refControl s.cfg s.regs (inputs s) = ({ u.regs with msCnt := s.regs.msCnt }, some u.regs.msCnt)) ∨
    (u.loaded = false ∧ u.regs.msCnt = s.regs.msCnt ∧ refControl s.cfg s.regs (inputs s) = (u.regs, none)) := by
  cases h with
  | acceptsSleep d hst hcmd ho =>
    obtain ⟨hop, rfl⟩ := (offered_sleep_iff s d).1 ho
    refine .inl ⟨rfl, ?_⟩
    rw [← BitVec.setWidth_eq_extractLsb' (by decide)]
    simp only [refControl, hst, hcmd, hop, if_true]
    rfl
  | scansCandidate c hst hv => exact .inl ⟨rfl, refControl_scan_of_isFirstLow hst hv⟩
  | polls hst hc hl =>
    refine .inl ⟨rfl, ?_⟩
    simp only [refControl, hst, hl, Bool.false_eq_true, if_false]
    rfl
  | scansNone hst hv => exact .inr ⟨hs, rfl, refControl_scan_of_allHigh hst hv⟩
  | idles hst hcmd => exact .inr ⟨hs, rfl, by simp [refControl, hst, hcmd]⟩
  | acceptsRdbtn hst hcmd ho =>
    have hop := (offered_rdbtn_iff s).1 ho
    refine .inr ⟨hs, rfl, ?_⟩
    simp only [refControl, hst, hcmd, hop, if_true, Bool.false_eq_true, if_false]
    rfl
  | waits hst hms =>
    refine .inr ⟨hs, rfl, ?_⟩
    cases hk : s.regs.st with
    | settle | relWait | hsleep => simp [refControl, hk, hms]
    | idle | scan | check | relRead => simp [hk, isWait] at hst
  | settles hst hms | rereads hst hms | wakes hst hms =>
    refine .inr ⟨hs, rfl, ?_⟩
    simp only [refControl, hst]
    rw [if_pos hms]
    rfl
  | discards hst hc hl | confirms hst hc hl | reports hst hc hl =>
    refine .inr ⟨hs, rfl, ?_⟩
    simp only [refControl, hst, hl, if_true, Bool.false_eq_true, if_false]
    rfl

theorem refStep_of_rst {p : Params} {r : Regs} {i : Inputs} (h : i.rst = true) : refStep p r i = Regs.reset :=
  if_pos h

theorem refStep_of_refControl {p : Params} {r q : Regs} {i : Inputs} {d : Option Word} (h : i.rst = false)
    (hq : refControl p r i = (q, d)) : refStep p r i = { q with msCnt := refCounter r.msCnt i.tick d } := by
  rw [refStep, hq, h]
  rfl

/-- Where the control operation can go on, the step is the step of the listing. -/
theorem ControlMove.step_eq_refStep {s u : State} (h : ControlMove (beginStep s) u) (hr : (inputs s).rst = false) :
    step s = .next (endStep { s with regs := refStep s.cfg s.regs (inputs s) }) := by
  have henv : KeepsEnvironment s u := (beginStep_keepsEnvironment s).trans h.keepsEnvironment
  obtain ⟨hl, hq⟩ | ⟨hl, hms, hq⟩ := h.refControl_eq rfl
  · rw [step_of_controlMove_loaded hr h hl,
      show refStep s.cfg s.regs (inputs s) = _ from refStep_of_refControl hr hq]
    exact congrArg _ (henv.endStep_eq _)
  · rw [step_of_controlMove_unloaded hr h hl hms,
      show refStep s.cfg s.regs (inputs s) = _ from refStep_of_refControl hr hq,
      show refCounter _ _ none = _ from refCounter_none s]
    exact congrArg _ (henv.endStep_eq _)

/-- Settles O8: a reset step gives the reset registers on both sides; for a candidate that names a line every other step
is a control move, which the listing makes as well. -/
theorem stepAgreesWithReferenceListing : Obligations.StepAgreesWithReferenceListing := by
  intro s hc
  cases hr : (inputs s).rst with
  | true => rw [step_of_rst hr, refStep_of_rst hr]; rfl
  | false =>
    obtain ⟨u, hu⟩ := exists_controlMove (s := beginStep s) hc
    exact hu.step_eq_refStep hr

/-- Settles O31: a block with four lines has a line for each of the four values of `cand`. -/
theorem stepIsTotal : Obligations.StepIsTotal := by
  intro s h
  have hc : CandInRange s := h.elim id fun hfour => by
    rw [CandInRange, hfour]
    exact s.regs.cand.isLt
  have hstep := stepAgreesWithReferenceListing s hc
  exact ⟨_, hstep, fun u hu => Host.Outcome.next.inj (hu.symm.trans hstep)⟩

end Sys2Proof.Machine

/-! ### The table of control transfers (R103) -/

namespace Sys2Proof.Machine

/-- Settles O9: each row is one control move, followed by its load, by a zero counter that no tick changes, or by the
tick. -/
theorem transitionTableRows : Obligations.TransitionTableRows := by
  refine fun s => ⟨fun hr => step_of_rst hr, fun hr => ⟨fun hst hcmd => ?_, fun hst hcmd hop => ?_,
    fun hst hcmd hop => ?_, fun hst hv => ?_, fun c hst hv => ?_, fun hst hms => ?_, fun hst hms => ?_,
    fun hst hc hl => ?_, fun hst hc hl => ?_, fun hst hc hl => ?_, fun hst hc hl => ?_, fun hst hms => ?_,
    fun hst hms => ?_, fun hst hms => ?_, fun hst hms => ?_⟩⟩
  · exact (step_of_controlMove_unloaded hr (.idles hst hcmd) rfl rfl).trans rfl
  · exact step_of_controlMove_unloaded hr (.acceptsRdbtn hst hcmd (decodeCmd_of_opBit_clear hop)) rfl rfl
  · exact step_of_sleep hst hcmd (decode_cmd_of_opBit_set hop) hr
  · exact step_of_controlMove_unloaded hr (.scansNone hst hv) rfl rfl
  · exact (step_of_controlMove_loaded hr (.scansCandidate c hst hv) rfl).trans rfl
  · exact step_of_waiting (by rw [hst]; rfl) hms hr
  · exact (step_of_controlMove_zero hr (.settles hst hms) hms).trans rfl
  · exact step_of_controlMove_unloaded hr (.discards hst hc hl) rfl rfl
  · exact step_of_controlMove_unloaded hr (.confirms hst hc hl) rfl rfl
  · exact step_of_controlMove_unloaded hr (.reports hst hc hl) rfl rfl
  · exact (step_of_controlMove_loaded hr (.polls hst hc hl) rfl).trans rfl
  · exact step_of_waiting (by rw [hst]; rfl) hms hr
  · exact (step_of_controlMove_zero hr (.rereads hst hms) hms).trans rfl
  · exact step_of_waiting (by rw [hst]; rfl) hms hr
  · exact (step_of_controlMove_zero hr (.wakes hst hms) hms).trans rfl

end Sys2Proof.Machine

/-! ### Inputs that are not read (R99) -/

namespace Sys2Proof.Machine

/-- The records `i` and `j` agree on what the control operation of `s` reads of them (R99). -/
structure ControlReadsAlike (s : State) (i j : Inputs) : Prop where
  valid : s.regs.st = .idle → i.cmdValid = j.cmdValid
  command : s.regs.st = .idle → i.cmdValid = true → decodeCmd i.cmd = decodeCmd j.cmd
  lines : s.regs.st = .scan → ∀ c : LineIndex, c.toNat < s.cfg.lines.toNat →
    i.line.getLsbD c.toNat = j.line.getLsbD c.toNat
  candidate : s.regs.st = .check ∨ s.regs.st = .relRead →
    i.line.getLsbD s.regs.cand.toNat = j.line.getLsbD s.regs.cand.toNat

theorem decodeCmd_congr {w v : CmdWord} (hop : w.getLsbD 32 = v.getLsbD 32)
    (harg : w.getLsbD 32 = true → w.setWidth 32 = v.setWidth 32) : decodeCmd w = decodeCmd v := by
  cases hw : w.getLsbD 32 with
  | false => rw [decodeCmd_of_opBit_clear hw, decodeCmd_of_opBit_clear (hop.symm.trans hw)]
  | true =>
    rw [decodeCmd_of_opBit_set hw, decodeCmd_of_opBit_set (hop.symm.trans hw)]
    exact congrArg _ (harg hw)

theorem allHigh_congr {n : LineCount} {v w : LineVec}
    (h : ∀ c : LineIndex, c.toNat < n.toNat → v.getLsbD c.toNat = w.getLsbD c.toNat) (hv : AllHigh n v) :
    AllHigh n w :=
  fun c hc => (h c hc).symm.trans (hv c hc)

theorem isFirstLow_congr {n : LineCount} {v w : LineVec} {c : LineIndex}
    (h : ∀ c : LineIndex, c.toNat < n.toNat → v.getLsbD c.toNat = w.getLsbD c.toNat) (hv : IsFirstLow n v c) :
    IsFirstLow n w c := by
  obtain ⟨hc, hl, hbelow⟩ := hv
  exact ⟨hc, (h c hc).symm.trans hl, fun k hk => (h k (hk.trans hc)).symm.trans (hbelow k hk)⟩

/-- With another record that it reads alike, the control operation makes the same move. -/
theorem ControlMove.present_congr {s u : State} {i j : Inputs} (h : ControlMove (present i s) u)
    (hij : ControlReadsAlike s i j) : ControlMove (present j s) (present j u) := by
  cases h with
  | idles hst hcmd => exact .idles hst ((hij.valid hst).symm.trans hcmd)
  | acceptsRdbtn hst hcmd ho =>
    exact .acceptsRdbtn hst ((hij.valid hst).symm.trans hcmd) ((hij.command hst hcmd).symm.trans ho)
  | acceptsSleep d hst hcmd ho =>
    exact .acceptsSleep d hst ((hij.valid hst).symm.trans hcmd) ((hij.command hst hcmd).symm.trans ho)
  | scansNone hst hv => exact .scansNone hst (allHigh_congr (hij.lines hst) hv)
  | scansCandidate c hst hv => exact .scansCandidate c hst (isFirstLow_congr (hij.lines hst) hv)
  | waits hst hms => exact .waits hst hms
  | settles hst hms => exact .settles hst hms
  | discards hst hc hl => exact .discards hst hc ((hij.candidate (.inl hst)).symm.trans hl)
  | confirms hst hc hl => exact .confirms hst hc ((hij.candidate (.inl hst)).symm.trans hl)
  | reports hst hc hl => exact .reports hst hc ((hij.candidate (.inr hst)).symm.trans hl)
  | polls hst hc hl => exact .polls hst hc ((hij.candidate (.inr hst)).symm.trans hl)
  | rereads hst hms => exact .rereads hst hms
  | wakes hst hms => exact .wakes hst hms

theorem anyLow_eq_false_of_allHigh {s : State} (hv : AllHigh s.cfg.lines (inputs s).line) : anyLow s = false := by
  refine Bool.eq_false_iff.2 fun hany => ?_
  obtain ⟨c, hc, hlow⟩ := List.any_eq_true.1 hany
  have hhigh := hv c ((mem_lineIndices _ c).1 hc)
  rw [(isLow_iff _ c).1 hlow] at hhigh
  cases hhigh

/-- Where `loads` says that a load is requested, the tick finds it requested. -/
theorem ControlMove.loaded_of_loads {s u : State} (h : ControlMove s u) (hl : loads s = true) : u.loaded = true := by
  cases h with
  | acceptsSleep | scansCandidate | polls => rfl
  | idles hst hcmd => simp [loads, hst, hcmd] at hl
  | acceptsRdbtn hst hcmd ho =>
    simp only [loads, hst, (offered_rdbtn_iff s).1 ho, Bool.and_false, Bool.false_eq_true] at hl
  | scansNone hst hv => simp [loads, hst, anyLow_eq_false_of_allHigh hv] at hl
  | waits hst => simp [isWait_eq_false_of_loads hl] at hst
  | settles hst | rereads hst | wakes hst | discards hst | confirms hst => simp [loads, hst] at hl
  | reports hst hc hread => simp [loads, hst, candLevel, lineRead_of_lt hc, hread] at hl

/-- The tick of a step has an effect only when the counter is nonzero and no load is requested (R68, R69). -/
theorem ControlMove.tickIf_congr {s u : State} {a b : Bool} (h : ControlMove s u)
    (hab : s.regs.msCnt ≠ 0#32 → loads s = false → a = b) : tickIf a u = tickIf b u := by
  cases hl : loads s with
  | true =>
    have hloaded := h.loaded_of_loads hl
    rw [tickIf_of_loaded _ hloaded, tickIf_of_loaded _ hloaded]
  | false =>
    obtain ⟨hkeeps, -⟩ := h.loads_or_keeps_counter.resolve_left (ne_true_of_eq_false hl)
    by_cases hms : s.regs.msCnt = 0#32
    · rw [tickIf_of_zero _ (hkeeps.trans hms), tickIf_of_zero _ (hkeeps.trans hms)]
    · rw [hab hms hl]

theorem tickIf_present (b : Bool) (j : Inputs) (s : State) : tickIf b (present j s) = present j (tickIf b s) := by
  cases b with
  | false => rfl
  | true =>
    rw [tickIf_true, tickIf_true, countDown, countDown, apply_ite (present j)]
    rfl

/-- The record on the ports is gone after the step. -/
theorem endStep_present (j : Inputs) (s : State) : endStep (present j s) = endStep s := rfl

theorem instr_injective : Function.Injective CtrlState.instr := by
  intro k l h
  have hcode : Code.st k.code = .st l.code := by rw [← encode_ctrlState, ← encode_ctrlState, h]
  rw [← Option.some_inj, ← ctrlOfCode_code k, Code.st.inj hcode, ctrlOfCode_code]

/-- Only a read of a line that the block does not have keeps a control operation from going on (R38). -/
theorem exists_controlMove_of_readsInRange {s : State}
    (h : s.regs.st = .check ∨ s.regs.st = .relRead → CandInRange s) : ∃ u, ControlMove s u := by
  by_cases hread : s.regs.st = .check ∨ s.regs.st = .relRead
  · exact exists_controlMove (h hread)
  · obtain ⟨hcheck, hrelRead⟩ := not_or.1 hread
    obtain ⟨-, -, hgoes⟩ := onlyOutOfRangeLineReadStops s
    exact (hgoes s.regs.st.instr (instr_injective.ne hcheck) (instr_injective.ne hrelRead)).imp
      fun _ => controlMove_of_exec

theorem step_of_out_of_range {s : State} (hr : (inputs s).rst = false)
    (hread : s.regs.st = .check ∨ s.regs.st = .relRead) (hout : ¬CandInRange s) :
    step s = .fault (.lineReadOutOfRange s.regs.cand) := by
  have hstop : exec s.regs.st.instr (beginStep s) = .fault (.lineReadOutOfRange s.regs.cand) := by
    obtain ⟨hstops, -⟩ := onlyOutOfRangeLineReadStops (beginStep s)
    obtain ⟨hcheck, hrelRead⟩ := hstops hout
    obtain hst | hst := hread
    · rw [hst]; exact hcheck
    · rw [hst]; exact hrelRead
  rw [step_of_not_rst hr, hstop, andThen_fault]

/-- Settles O35: with the other record the control operation makes the same move, its tick changes as much, and the
record is gone after the step; a read of a line that the block does not have stops the step with either record. -/
theorem inputsNotReadHaveNoEffect : Obligations.InputsNotReadHaveNoEffect := by
  intro s i j hrst h
  cases hi : i.rst with
  | true =>
    rw [step_of_rst (s := present i s) hi, step_of_rst (s := present j s) (hrst.symm.trans hi)]
    rfl
  | false =>
    have hj : j.rst = false := hrst.symm.trans hi
    obtain ⟨hvalid, hop, harg, hlines, hcand, htick⟩ := h hi
    have hij : ControlReadsAlike (beginStep s) i j :=
      ⟨hvalid, fun hst hcmd => decodeCmd_congr (hop hst hcmd) (harg hst hcmd), hlines, hcand⟩
    by_cases hrange : s.regs.st = .check ∨ s.regs.st = .relRead → CandInRange s
    · obtain ⟨u, hu⟩ := exists_controlMove_of_readsInRange (s := present i (beginStep s)) hrange
      have hu' : ControlMove (present j (beginStep s)) (present j u) := hu.present_congr hij
      rw [step_of_controlMove (s := present i s) hi hu, step_of_controlMove (s := present j s) hj hu',
        inputs_present, inputs_present, tickIf_present, endStep_present, hu.tickIf_congr htick]
    · obtain ⟨hread, hout⟩ := Classical.not_imp.1 hrange
      rw [step_of_out_of_range (s := present i s) hi hread hout, step_of_out_of_range (s := present j s) hj hread hout]
      rfl

end Sys2Proof.Machine

/-! ### The outputs (R101) -/

namespace Sys2Proof.Machine

@[simp] theorem outputs_busy_iff (s : State) : (outputs s).busy = true ↔ s.regs.st ≠ .idle := by
  simp [outputs, ready]

@[simp] theorem outputs_not_busy_iff (s : State) : (outputs s).busy = false ↔ s.regs.st = .idle := by
  simp [outputs, ready]

/-- Settles O53: a step without reset completes the command, or shows no response that was not shown before and does not
come into IDLE. -/
theorem outputsFollowTheState : Obligations.OutputsFollowTheState := by
  refine ⟨fun s => ⟨rfl, decide_not.symm, rfl, rfl⟩, fun s hs hv => ?_, fun s t h hr => ?_⟩
  · obtain ⟨-, -, -, -, hbusy, -⟩ := hs
    rw [outputs_not_busy_iff]
    by_contra hst
    cases hv.symm.trans (hbusy hst)
  · simp only [outputs_busy_iff, outputs_not_busy_iff]
    obtain ⟨hs, ht, hv⟩ | ⟨hback, hidle⟩ := step_rspV h hr
    · exact ⟨fun _ _ => hv, fun _ _ => ⟨hs, ht⟩⟩
    · refine ⟨fun hs ht => absurd (hidle ht).1 hs, fun hs ht => ?_⟩
      cases hs.symm.trans (hback ht)

end Sys2Proof.Machine

/-! ### Hangs (R111, R112) -/

namespace Sys2Proof.Machine

theorem ticksIn_eq_zero {s : State} {e n : Nat} (h : ∀ k, k < n → (inputsAt s (e + k)).tick = false) :
    ticksIn s e n = 0 := by
  induction n with
  | zero => rfl
  | succ n ih => simp [ticksIn_succ, ih fun k hk => h k (hk.trans n.lt_succ_self), h n n.lt_succ_self]

/-- Settles O47: of a wait that no tick reaches, no tick is counted. -/
theorem noTickHangsForEver : Obligations.NoTickHangsForEver := by
  intro s n hst hms hquiet
  have hnone : ∀ m, m ≤ n → ticksIn s 0 m = 0 := fun m hm =>
    ticksIn_eq_zero fun k hk => by rw [Nat.zero_add]; exact (hquiet k (hk.trans_le hm)).2
  have hpos : 0 < s.regs.msCnt.toNat := Nat.pos_of_ne_zero (BitVec.toNat_ne.1 hms)
  have hbusy : s.regs.st ≠ .idle := fun h => by simp [h, isWait] at hst
  obtain ⟨t, ht, hregs, -⟩ := run_of_waiting hst (fun k hk => (hquiet k hk).1) fun m hm => by
    rw [hnone m hm.le]
    exact hpos
  rw [hnone n le_rfl, regsAfterTicks_zero] at hregs
  refine ⟨t, ht, hregs, by rwa [outputs_busy_iff, hregs], fun ⟨_, _, _, _, hrsp, _⟩ => ?_⟩
  exact (congrArg Regs.rspV hregs).trans (hrsp hbusy)

/-- The two control states of the release detection (R85, R86). -/
def InReleaseWait (k : CtrlState) : Prop := k = .relRead ∨ k = .relWait

/-- Only a REL_READ that reads the candidate high leaves the release-wait. -/
theorem ControlMove.stays_in_releaseWait {s t : State} (h : ControlMove s t) (hst : InReleaseWait s.regs.st)
    (hlow : s.regs.st = .relRead → (inputs s).line.getLsbD s.regs.cand.toNat = false) :
    InReleaseWait t.regs.st ∧ t.regs.cand = s.regs.cand := by
  cases h with
  | waits => exact ⟨hst, rfl⟩
  | polls => exact ⟨.inr rfl, rfl⟩
  | rereads => exact ⟨.inl rfl, rfl⟩
  | reports hk hc hl => cases hl.symm.trans (hlow hk)
  | idles hk | acceptsRdbtn hk | acceptsSleep _ hk | scansNone hk | scansCandidate _ hk | settles hk | discards hk
  | confirms hk | wakes hk => simp [InReleaseWait, hk] at hst

theorem step_stays_in_releaseWait {s t : State} (h : step s = .next t) (hr : (inputs s).rst = false)
    (hst : InReleaseWait s.regs.st)
    (hlow : s.regs.st = .relRead → (inputs s).line.getLsbD s.regs.cand.toNat = false) :
    InReleaseWait t.regs.st ∧ t.regs.cand = s.regs.cand := by
  obtain ⟨u, hu, rfl⟩ := exists_controlMove_of_step h hr
  simpa using hu.stays_in_releaseWait hst hlow

/-- Under the invariants a run never stops (R98). -/
theorem Invariant.exists_run {s : State} (hs : Invariant s) (n : Nat) : ∃ t, run n s = .next t ∧ Invariant t := by
  induction n with
  | zero => exact ⟨s, rfl, hs⟩
  | succ n ih =>
    obtain ⟨u, hu, hinv⟩ := ih
    obtain ⟨t, ht, htinv⟩ := stepKeepsInvariant u hinv
    exact ⟨t, by rw [run_succ_eq_andThen_step, hu, andThen_next, ht], htinv⟩

theorem run_stays_in_releaseWait {s t : State} {n : Nat} (ht : run n s = .next t)
    (hst : InReleaseWait s.regs.st) (hr : NoReset s n)
    (hlow : ∀ k u, k < n → run k s = .next u → u.regs.st = .relRead → lineAt s k s.regs.cand = false) :
    InReleaseWait t.regs.st ∧ t.regs.cand = s.regs.cand := by
  induction n generalizing t with
  | zero => cases ht; exact ⟨hst, rfl⟩
  | succ n ih =>
    obtain ⟨u, hu, hut⟩ := run_succ_eq_next ht
    obtain ⟨hust, hcand⟩ := ih hu (hr.of_le n.le_succ) fun k v hk => hlow k v (hk.trans n.lt_succ_self)
    have hru : (inputs u).rst = false := inputs_of_run hu ▸ hr n n.lt_succ_self
    rw [← hcand]
    refine step_stays_in_releaseWait hut hru hust fun hrel => ?_
    rw [← lineAt_of_run hu, hcand]
    exact hlow n u n.lt_succ_self hu hrel

/-- Settles O48, by induction on the run: the block stays in the release-wait, and the invariants give the outputs. -/
theorem stuckLowLineHangsForEver : Obligations.StuckLowLineHangsForEver := by
  intro s n hs hst hr hlow
  obtain ⟨t, ht, -, -, -, -, hrsp, -⟩ := hs.exists_run n
  obtain ⟨htst, hcand⟩ := run_stays_in_releaseWait ht hst hr hlow
  have hbusy : t.regs.st ≠ .idle := by rcases htst with h | h <;> simp [h]
  exact ⟨t, ht, htst, hcand, (outputs_busy_iff t).2 hbusy, hrsp hbusy⟩

end Sys2Proof.Machine

/-! ### Termination under the premises of R113 -/

namespace Sys2Proof.Machine

/-- Of enough ticks within `x` steps, the `k`-th comes at a step of its own (R138: `W(d)` exists). -/
theorem exists_ticksIn_eq {s : State} {e x k : Nat} (h : k ≤ ticksIn s e x) :
    ∃ w, w ≤ x ∧ ticksIn s e w = k ∧ ∀ m, m < w → ticksIn s e m < k := by
  induction x with
  | zero => exact ⟨0, le_rfl, (Nat.le_zero.1 h).symm, nofun⟩
  | succ x ih =>
    by_cases hx : k ≤ ticksIn s e x
    · obtain ⟨w, hw, hrest⟩ := ih hx
      exact ⟨w, hw.trans x.le_succ, hrest⟩
    · have hone : ticksIn s e (x + 1) ≤ ticksIn s e x + 1 := by
        rw [ticksIn_succ]
        split <;> omega
      refine ⟨x + 1, le_rfl, by omega, fun m hm => ?_⟩
      have hle := ticksIn_mono s e (Nat.le_of_lt_succ hm)
      omega

/-- Settles O49: the call of O41, whose last tick is among the first `x`. -/
theorem sleepCompletesUnderTickLiveness : Obligations.SleepCompletesUnderTickLiveness := by
  intro s d x hst hcmd hd hr hlive
  obtain ⟨w, hwx, hw⟩ := exists_ticksIn_eq hlive
  obtain ⟨hbusy, ⟨t, ht, hregs⟩, hcons⟩ := sleepCallLastsItsTicks s d w hst hcmd hd hw (hr.of_le (by omega))
  refine ⟨w, t, hwx, ht, by rw [hregs], by rw [hregs], by rw [hregs], hcons, fun m u hm hmw hu => ?_⟩
  obtain ⟨v, hv, hvst, -⟩ := hbusy m hm hmw
  cases hu.symm.trans hv
  exact hvst

/-- The call accepted at the coming step completes with a valid response within `n` steps, and is in flight until
then. -/
def AnswersWithin (s : State) (n : Nat) : Prop :=
  ∃ m t, m < n ∧ run (m + 1) s = .next t ∧ t.regs.st = .idle ∧ t.regs.rspV = true ∧ InCall s m

/-- A call that has not answered within `n` steps is in flight for as long: the first step into IDLE answers. -/
theorem inCall_of_not_answersWithin {s : State} {n : Nat} (hst : s.regs.st = .idle)
    (hcmd : (inputs s).cmdValid = true) (hr : NoReset s n) (h : ¬AnswersWithin s n) : InCall s n := by
  intro j
  induction j using Nat.strong_induction_on with
  | _ j ih =>
    intro t hj hjn ht hidle
    obtain ⟨m, rfl⟩ := Nat.exists_eq_succ_of_ne_zero (Nat.ne_of_gt hj)
    obtain ⟨u, hu, hut⟩ := run_succ_eq_next ht
    have hcall : InCall s m := fun i v hi him => ih i (Nat.lt_succ_of_le him) v hi (him.trans (Nat.le_of_lt hjn))
    have hru : (inputs u).rst = false := inputs_of_run hu ▸ hr m hjn
    have hbusy : u.regs.st ≠ .idle := by
      cases m with
      | zero =>
        cases hu
        obtain ⟨v, hv, hvst, -⟩ := exists_step_of_command hst hru hcmd
        cases hv.symm.trans hut
        exact absurd hidle hvst
      | succ m => exact hcall _ u m.succ_pos le_rfl hu
    obtain ⟨-, -, hrsp⟩ | ⟨-, hstay⟩ := step_rspV hut hru
    · exact h ⟨m, t, hjn, ht, hidle, hrsp, hcall⟩
    · exact hbusy (hstay hidle).1

theorem InCall.of_le {s : State} {m n : Nat} (h : InCall s n) (hmn : m ≤ n) : InCall s m :=
  fun j u hj hjm => h j u hj (hjm.trans hmn)

/-- The two control states that read the candidate line (R84, R85). -/
def ReadsCandidate (k : CtrlState) : Prop := k = .check ∨ k = .relRead

theorem ReadsCandidate.holdsCandidate {k : CtrlState} (h : ReadsCandidate k) : holdsCandidate k = true := by
  obtain rfl | rfl := h <;> rfl

theorem exists_step_idle_of_candidate_high {s : State} (hst : ReadsCandidate s.regs.st)
    (hc : CandInRange s) (hl : (inputs s).line.getLsbD s.regs.cand.toNat = true) (hr : (inputs s).rst = false) :
    ∃ t, step s = .next t ∧ t.regs.st = .idle := by
  obtain hst | hst := hst
  · exact ⟨_, step_of_controlMove hr (.discards (s := beginStep s) hst hc hl), by simp⟩
  · exact ⟨_, step_of_controlMove hr (.reports (s := beginStep s) hst hc hl), by simp⟩

theorem isFirstLow_unique {n : LineCount} {v : LineVec} {c d : LineIndex} (hc : IsFirstLow n v c)
    (hd : IsFirstLow n v d) : c = d :=
  Option.some_injective _ (((lowestZero_eq_some_iff n v c).2 hc).symm.trans ((lowestZero_eq_some_iff n v d).2 hd))

/-- Only the scan of a RDBTN, its second step, finds it without a candidate. -/
theorem CallHistory.holdsCandidate_of_two_le {s : State} {m : Nat} {c : LineIndex} {k : CtrlState}
    (h : CallHistory s m c k) (hm : 2 ≤ m) : holdsCandidate k = true := by
  cases k with
  | idle | hsleep => exact h.elim
  | scan => exact absurd hm (by rw [show m = 1 from h]; decide)
  | settle | check | relRead | relWait => rfl

theorem CallHistory.isFirstLow {s : State} {m : Nat} {c : LineIndex} {k : CtrlState} (h : CallHistory s m c k)
    (hk : holdsCandidate k = true) : IsFirstLow s.cfg.lines (inputsAt s 1).line c := by
  cases k with
  | idle | scan | hsleep => cases hk
  | settle | check => exact h
  | relRead | relWait => exact h.1

/-- No step of a call in flight leads into IDLE. -/
theorem InCall.step_ne_idle {s u t : State} {m n : Nat} (h : InCall s n) (hmn : m < n) (hu : run m s = .next u)
    (hut : step u = .next t) : t.regs.st ≠ .idle :=
  h (m + 1) t m.succ_pos hmn (by rw [run_succ_eq_andThen_step, hu, andThen_next, hut])

section
variable {s u : State} {m : Nat} (hst : s.regs.st = .idle) (hcmd : (inputs s).cmdValid = true)
  (hd : decode (.cmd (inputs s).cmd) = .instr .rdbtn)
include hst hcmd hd

theorem callHistory_of_inCall (hr : NoReset s m) (hcall : InCall s m) (hm : 1 ≤ m) (hu : run m s = .next u) :
    CallHistory s m u.regs.cand u.regs.st := by
  obtain ⟨n, rfl⟩ := Nat.exists_eq_succ_of_ne_zero (Nat.ne_of_gt hm)
  exact callHistory_of_run hst hcmd hd hr hcall hu

theorem isFirstLow_of_inCall (hr : NoReset s m) (hcall : InCall s m) (hu : run m s = .next u)
    (hust : holdsCandidate u.regs.st = true) : IsFirstLow s.cfg.lines (inputsAt s 1).line u.regs.cand := by
  have hm : m ≠ 0 := by
    rintro rfl
    cases hu
    simp [hst, holdsCandidate] at hust
  exact (callHistory_of_inCall hst hcmd hd hr hcall (Nat.one_le_iff_ne_zero.2 hm) hu).isFirstLow hust

/-- A CHECK or a REL_READ that reads its candidate high ends the call. -/
theorem not_inCall_of_candidate_high (hr : NoReset s (m + 1)) (hu : run m s = .next u)
    (hust : ReadsCandidate u.regs.st) (hl : lineAt s m u.regs.cand = true) :
    ¬InCall s (m + 1) := by
  intro hcall
  obtain ⟨hc, -⟩ := isFirstLow_of_inCall hst hcmd hd (hr.of_le m.le_succ) (hcall.of_le m.le_succ) hu
    hust.holdsCandidate
  rw [← (run_environment hu).1] at hc
  obtain ⟨t, ht, hidle⟩ := exists_step_idle_of_candidate_high hust hc ((lineAt_of_run hu _).symm.trans hl)
    (inputs_of_run hu ▸ hr m m.lt_succ_self)
  exact hcall.step_ne_idle m.lt_succ_self hu ht hidle

/-- So does a SCAN that sees every line high, whatever the counter holds. -/
theorem not_inCall_of_scan_allHigh (hr : NoReset s 2) (hv : AllHigh s.cfg.lines (inputsAt s 1).line) :
    ¬InCall s 2 := by
  intro hcall
  obtain ⟨-, a, ha, hregs⟩ := reaches_scan hst hcmd hd (hr 0 Nat.two_pos)
  have hra : (inputs a).rst = false := inputs_of_run ha ▸ hr 1 Nat.one_lt_two
  rw [← (run_environment ha).1, ← inputs_of_run ha] at hv
  have hscan := step_of_controlMove hra (.scansNone (s := beginStep a) (by rw [beginStep_regs, hregs]; rfl) hv)
  exact hcall.step_ne_idle Nat.one_lt_two ha hscan (by simp)

/-- The scan that finds a candidate leaves the block in SETTLE with the invariants, whatever the counter held before. -/
theorem exists_invariant_of_scan {c : LineIndex} (hr : NoReset s 2)
    (hv : IsFirstLow s.cfg.lines (inputsAt s 1).line c) : ∃ a, run 2 s = .next a ∧ Invariant a := by
  have hscan := reaches_scan hst hcmd hd (hr 0 Nat.two_pos)
  obtain ⟨-, a, ha, hregs⟩ := hscan.step rfl (regsMove_scan_candidate _ (hr 1 Nat.one_lt_two) hv)
  have hc := hv.1
  rw [← (run_environment ha).1] at hc hregs
  exact ⟨a, ha, by simp [Invariant, hregs, inFlight, Regs.reset, holdsCandidate, counterBound, hc]⟩
end

/-- The two waits of a RDBTN end at a state that reads the candidate line, once ticks enough for the counter came. -/
theorem exists_read_of_wait {s : State} {x : Nat} (hwait : isWait s.regs.st = true)
    (hst : holdsCandidate s.regs.st = true) (hr : NoReset s (x + 1))
    (hticks : s.regs.msCnt.toNat ≤ ticksIn s 0 x) :
    ∃ j t, j ≤ x + 1 ∧ run j s = .next t ∧ ReadsCandidate t.regs.st := by
  obtain ⟨w, hwx, hw, hlt⟩ := exists_ticksIn_eq hticks
  obtain ⟨-, ⟨t, ht, -, hcheck, hread, -⟩, -⟩ :=
    waitLastsExactlyItsTicks s w hwait (hr.of_le (Nat.succ_le_succ hwx)) hw hlt
  refine ⟨w + 1, t, Nat.succ_le_succ hwx, ht, ?_⟩
  cases hk : s.regs.st with
  | settle => exact .inl (hcheck hk)
  | relWait => exact .inr (hread hk)
  | idle | scan | hsleep => simp [hk, holdsCandidate] at hst
  | check | relRead => simp [hk, isWait] at hwait

/-- With ticks enough for either interval, a RDBTN that holds a candidate reads its line within `x + 1` steps. -/
theorem Invariant.exists_read {s : State} {x : Nat} (hs : Invariant s) (hst : holdsCandidate s.regs.st = true)
    (hr : NoReset s (x + 1)) (hsettle : TickLive s 0 s.cfg.settleMs x) (hpoll : TickLive s 0 s.cfg.pollMs x) :
    ∃ j t, j ≤ x + 1 ∧ run j s = .next t ∧ ReadsCandidate t.regs.st := by
  have ⟨_, _, _, hms, _⟩ := hs
  cases hk : s.regs.st with rw [hk] at hms
  | check => exact ⟨0, s, Nat.zero_le _, rfl, .inl hk⟩
  | relRead => exact ⟨0, s, Nat.zero_le _, rfl, .inr hk⟩
  | settle => exact exists_read_of_wait (by rw [hk]; rfl) hst hr (hms.trans hsettle)
  | relWait => exact exists_read_of_wait (by rw [hk]; rfl) hst hr (hms.trans hpoll)
  | idle | scan | hsleep => simp [hk, holdsCandidate] at hst

/-- Settles O50: a call still in flight at the `q`-th step reads its line within `x + 1` steps more, and reads it
high. -/
theorem rdbtnCompletesUnderLivenessAndRelease : Obligations.RdbtnCompletesUnderLivenessAndRelease := by
  intro s c q x hst hcmd hd hv hq hr hhigh hsettle hpoll
  by_contra hno
  have hcall : InCall s (q + x + 2) := inCall_of_not_answersWithin hst hcmd hr hno
  obtain ⟨a, ha, hinv⟩ := exists_invariant_of_scan hst hcmd hd (hr.of_le (by omega)) hv
  obtain ⟨k, rfl⟩ := Nat.exists_eq_add_of_le hq
  obtain ⟨u, hu, huinv⟩ := hinv.exists_run k
  replace hu : run (2 + k) s = .next u := (run_add_of_run ha k).trans hu
  have hholds := (callHistory_of_inCall hst hcmd hd (hr.of_le (by omega)) (hcall.of_le (by omega))
    (Nat.one_le_of_lt hq) hu).holdsCandidate_of_two_le hq
  rw [TickLive, ← (run_environment hu).1, ← Nat.add_zero (2 + k), ← ticksIn_of_run hu] at hsettle hpoll
  obtain ⟨j, t, hj, ht, htst⟩ := huinv.exists_read hholds
    ((hr.of_le (by omega) : NoReset s (2 + k + (x + 1))).of_run hu) hsettle hpoll
  replace ht : run (2 + k + j) s = .next t := (run_add_of_run hu j).trans ht
  have hl : lineAt s (2 + k + j) t.regs.cand = true := by
    have hfirst := isFirstLow_of_inCall hst hcmd hd (hr.of_le (by omega)) (hcall.of_le (by omega)) ht
      htst.holdsCandidate
    rw [isFirstLow_unique hfirst hv]
    exact hhigh _ (by omega) (by omega)
  exact not_inCall_of_candidate_high hst hcmd hd (hr.of_le (by omega)) ht htst hl (hcall.of_le (by omega))

/-- Settles O57: a call still in flight after `n + 1` steps had a candidate, which CHECK read low, so that it came to
REL_READ, and some REL_READ of it read the candidate high. -/
theorem everyRdbtnCompletesUnderLivenessAndRelease : Obligations.EveryRdbtnCompletesUnderLivenessAndRelease := by
  intro s x n hst hcmd hd hr hxn hlive hreleased
  suffices AnswersWithin s (n + 1) by
    obtain ⟨m, t, hm, hrest⟩ := this
    exact ⟨m, t, Nat.le_of_lt_succ hm, hrest⟩
  by_contra hno
  have hcall : InCall s (n + 1) := inCall_of_not_answersWithin hst hcmd hr hno
  obtain hv | ⟨c, hv⟩ := allHigh_or_exists_isFirstLow s.cfg.lines (inputsAt s 1).line
  · exact not_inCall_of_scan_allHigh hst hcmd hd (hr.of_le (by omega)) hv (hcall.of_le (by omega))
  obtain ⟨w, hwx, hw⟩ := exists_ticksIn_eq hlive
  have hcheck := reaches_check hst hcmd hd hv hw (hr.of_le (by omega))
  have hrw : (inputsAt s (w + 3)).rst = false := hr _ (by omega)
  cases hl : lineAt s (w + 3) c with
  | true =>
    obtain ⟨-, t, ht, hregs⟩ := hcheck
    exact not_inCall_of_candidate_high hst hcmd hd (hr.of_le (by omega)) ht (.inl (by rw [hregs]; rfl))
      (by rw [hregs]; exact hl) (hcall.of_le (by omega))
  | false =>
    obtain ⟨-, t, ht, hregs⟩ := hcheck.step rfl (regsMove_check_low hrw hv.1 hl)
    have hpolls : PollsAt s (w + 4) := ⟨hcall.of_le (by omega), t, ht, by rw [hregs]; rfl⟩
    obtain ⟨m, hmn, -, u, hu, hust, hhigh⟩ := hreleased ⟨w + 4, by omega, hpolls⟩
    exact not_inCall_of_candidate_high hst hcmd hd (hr.of_le (by omega)) hu (.inr hust) hhigh
      (hcall.of_le (by omega))

end Sys2Proof.Machine

/-! ### Reset (R24, R122) -/

namespace Sys2Proof.Machine

theorem exec_reset (s : State) : exec .reset s = .next (resetRegs s) := rfl

/-- The outputs are functions of the registers alone (R101), so the reset values of R24 fix them. -/
theorem outputs_of_reset_regs {s : State} (h : s.regs = Regs.reset) :
    outputs s = { cmdReady := true, busy := false, rspValid := false, rsp := 0b000#3 } := by
  simp [outputs, ready, h, Regs.reset]

/-- Settles O10. -/
theorem resetWritesEveryRegister : Obligations.ResetWritesEveryRegister :=
  exec_reset

/-- Settles O33: a step with `rst` 1 is RESET alone, and what ends the step leaves the registers as RESET wrote them. -/
theorem resetStepBeatsEverything : Obligations.ResetStepBeatsEverything := by
  intro s hr
  have hregs : (endStep (resetRegs s)).regs = Regs.reset := by simp
  exact ⟨_, step_of_rst hr, hregs, outputs_of_reset_regs hregs⟩

end Sys2Proof.Machine
